-- ==== Sys2Proof/Word.lean ====
section
/-! DEFINITION. The word types of the TN4816: bytes, two-byte fields, store addresses, unit addresses, page numbers. -/

namespace Sys2Proof

/-- A byte on a port, on the unit link, in the store or in the directory image. -/
abbrev Byte := BitVec 8

/-- A two-byte field: a store address, a count, a sequence number, a CRC-16 (11.1). -/
abbrev Word := BitVec 16

/-- A store address line value, 0000h to 7FFFh (R46). -/
abbrev StoreAddr := BitVec 15

/-- A unit address, 0 to 31 (R1). -/
abbrev UnitAddr := Fin 32

/-- A page number, 0 to 63 (R46). -/
abbrev PageNo := Fin 64

/-- The unit status bits DONE, ATTN, CHECK, EXCEPT, BUSY as bits 0 to 4 of the status byte (11.4, R114). -/
abbrev UStatus := BitVec 5

end Sys2Proof
end

