-- ==== Sys2Proof/Syntax.lean ====
section
/-! DEFINITION. The commands of the TN4816: one constructor for each row of spec/opcode_table.json, with its operands. -/

namespace Sys2Proof

/-- Port A or port B. -/
inductive Port
  | a
  | b
  deriving DecidableEq, Repr

/-- The strap CFG_SRC: low selects memory, high port load (R152, 11.7). -/
inductive CfgSrc
  | memory
  | portLoad
  deriving DecidableEq, Repr

/-- The strap LINK_RATE: low selects 2 Mbit/s, high 4 Mbit/s (R152, 11.7). -/
inductive LinkRate
  | mbit2
  | mbit4
  deriving DecidableEq, Repr

/-- The strap CFG_SPEED: low selects 1 MHz, high 8 MHz (R152, 11.7). -/
inductive CfgSpeed
  | mhz1
  | mhz8
  deriving DecidableEq, Repr

/-- The three strap levels (R152). -/
structure Straps where
  cfgSrc : CfgSrc
  linkRate : LinkRate
  cfgSpeed : CfgSpeed
  deriving DecidableEq, Repr

/-- What a REQ carries besides its address and repeat mark (R66). -/
inductive ReqBody
  | inData (data : List Byte)
  | outData
  | status (st : Byte)
  deriving DecidableEq, Repr

/-- The commands and events of spec/opcode_table.json. The port commands carry the argument bytes of 11.2, the unit's
frames their address byte and payload. -/
inductive Instr
  /-- READ_STATUS (R178). -/
  | readStatus (p : Port)
  /-- KEEPALIVE (R142). -/
  | keepalive (p : Port)
  /-- START with unit byte and program address (R16). -/
  | start (p : Port) (unit : Byte) (addr : Word)
  /-- HALT with unit byte (R18). -/
  | halt (p : Port) (unit : Byte)
  /-- QUERY_UNIT with unit byte (R19). -/
  | queryUnit (p : Port) (unit : Byte)
  /-- ADOPT with a unit byte, or FFh for ALL (R143). -/
  | adopt (p : Port) (arg : Byte)
  /-- TAKE_RECORD (R118). -/
  | takeRecord (p : Port)
  /-- PEEK_RECORD (R119). -/
  | peekRecord (p : Port)
  /-- PEER_TAKE (R147). -/
  | peerTake (p : Port)
  /-- READ_STORE with address and length (R54). -/
  | readStore (p : Port) (addr : Word) (len : Byte)
  /-- WRITE_STORE with address and data bytes (R55). -/
  | writeStore (p : Port) (addr : Word) (data : List Byte)
  /-- CLAIM_PAGES with first page and number (R50). -/
  | claimPages (p : Port) (first number : Byte)
  /-- SHARE_PAGES with first page and number (R51). -/
  | sharePages (p : Port) (first number : Byte)
  /-- RELEASE_PAGES with first page and number (R52). -/
  | releasePages (p : Port) (first number : Byte)
  /-- QUERY_PAGES with first page and number (R53). -/
  | queryPages (p : Port) (first number : Byte)
  /-- PORT_RESET (R148). -/
  | portReset (p : Port)
  /-- LINK_RESET (R110). -/
  | linkReset (p : Port)
  /-- PART_RESET (R165). -/
  | partReset (p : Port)
  /-- LOAD_DIRECTORY with index, unit, mode, home port and silence limit bytes (R160). -/
  | loadDirectory (p : Port) (index unit mode home silence : Byte)
  /-- COMMIT_DIRECTORY with entry count and lease period (R161). -/
  | commitDirectory (p : Port) (count lease : Byte)
  /-- READ_DIRECTORY with entry index (R163). -/
  | readDirectory (p : Port) (index : Byte)
  /-- A good frame whose code is unassigned or whose argument length does not suit its code (R173). -/
  | badCommand (p : Port) (code : Byte) (args : List Byte)
  /-- A complete command frame whose CRC-8 is bad; the operand is the whole frame (R173). -/
  | frameError (p : Port) (frame : List Byte)
  /-- A command code and an argument length byte above 70 (R172). -/
  | argumentLengthError (p : Port) (code len : Byte)
  /-- The port's chip select is asserted (R170). -/
  | chipSelectAssert (p : Port)
  /-- The port's chip select is deasserted (R171). -/
  | chipSelectDeassert (p : Port)
  /-- The port's lease timer expires (R138). -/
  | leaseExpiry (p : Port)
  /-- The expiry timer of the port's PART_RESET request stamp runs out (R164). -/
  | stampExpiry (p : Port)
  /-- The agreed part reset is taken (R166). -/
  | agreedResetTaken
  /-- The supply rises through, or falls below, its valid level (R187). -/
  | powerOn
  /-- Power-on ends; the operand is the strap pins' levels at that moment (R187, R152). -/
  | powerOnEnd (straps : Straps)
  /-- A RESET pin assertion of 5 us or longer is taken (R187). -/
  | resetAssert
  /-- The RESET pin is released; the operand is the strap pins' levels at that moment (R153, R152). -/
  | resetRelease (straps : Straps)
  /-- The link-reset timer expires in BREAK (R86). -/
  | breakEnd
  /-- The link-reset timer expires in SETTLE (R86, R154). -/
  | settleEnd
  /-- A load attempt ends; the operand is the bytes DSC read from the configuration memory (R155, R157). -/
  | loadAttemptEnd (image : List Byte)
  /-- The SRQ line changes to asserted or released (R68). -/
  | srqChange (asserted : Bool)
  /-- LNK grants a halt selection (R76). -/
  | haltSelectionGrant
  /-- LNK grants a recall (R78). -/
  | recallGrant
  /-- LNK grants a poll (R77). -/
  | pollGrant
  /-- LNK grants a selection (R75). -/
  | selectionGrant
  /-- The end of a frame LNK was sending (R72). -/
  | frameSent
  /-- The reply timer expires (R72, R73). -/
  | replyTimerExpiry
  /-- The gap timer expires (R79). -/
  | gapTimerExpiry
  /-- The silence timer of a unit's context expires (R9). -/
  | silenceTimerExpiry (unit : UnitAddr)
  /-- The end of a good RSP (R75). -/
  | rsp (addr status : Byte)
  /-- The end of a good REQ IN_DATA, with its repeat mark (R80). -/
  | reqInData (addr : Byte) (mark : Bool) (data : List Byte)
  /-- The end of a good REQ OUT_DATA, with its repeat mark (R81). -/
  | reqOutData (addr : Byte) (mark : Bool)
  /-- The end of a good REQ STATUS, with its repeat mark (R82). -/
  | reqStatus (addr : Byte) (mark : Bool) (status : Byte)
  /-- The end of a good REQ of any kind with the repeat mark set (R83). -/
  | reqRepeat (addr : Byte) (body : ReqBody)
  /-- The end of a good unit ACK (R81). -/
  | ack (addr : Byte)
  /-- The end of a good unit NAK (R73). -/
  | nak (addr : Byte)
  /-- The end of a corrupt frame (R64, R74). -/
  | corruptFrame
  /-- A byte clocked on a port, taken at its eighth clock (R168, R170). -/
  | byteTaken (p : Port) (byte : Byte)
  /-- The start of a frame on the unit link (R72). -/
  | frameStart
  deriving DecidableEq, Repr

end Sys2Proof
end

