-- ==== Sys2Proof/Decode.lean ====
section
/-! DEFINITION. The decoder of the opcode table's words. No row of spec/opcode_table.json gives bits (every row's
"fields" is empty and none has "fixed"), so no word spells a command. The byte forms of commands (port frames, unit
frames) are read in Machine/PortEvents.lean and Machine/Frames.lean. -/

namespace Sys2Proof

/-- The command a table word spells: none, because no row of the table gives bits (log 26). -/
def decodeTableWord (_nbits _w : Nat) : Option Instr := none

end Sys2Proof
end

