-- ==== Sys2Proof/Config.lean ====
section
/-! DEFINITION. The fixed numbers of the TN4816: depths and timer values. No rule leaves a value to the implementation,
and no rule leaves the value of a result undefined, so there is no free value here. -/

namespace Sys2Proof.Config

/-- Records a completion queue holds at most (R115). -/
def queueDepth : Nat := 16

/-- The lease period while no directory is active, in units of 10 ms: 1000 ms (R136). -/
def defaultLease : Byte := 100

/-- The reply timer, in microseconds (R72). -/
def replyTimeout : Nat := 100

/-- The gap timer, in microseconds (R79). -/
def gapTimeout : Nat := 2000

/-- The break of the link-reset condition, in microseconds (R86). -/
def breakTime : Nat := 1000

/-- The settle time of the link-reset condition, in microseconds (R86). -/
def settleTime : Nat := 5000

/-- Tries of SEL, RCL or DAT, and receptions of a REQ, at most (R71, R73, R74). -/
def maxTries : Nat := 3

/-- JUMPs one fetch follows at most (R27). -/
def maxJumps : Nat := 4

/-- Bytes of one IN_DATA or DAT frame at most (R65, R66). -/
def frameBytes : Nat := 16

/-- The largest argument length a command frame may carry (R168, R172). -/
def maxArgs : Nat := 70

/-- The largest saturating lapse count (R141). -/
def maxLapses : Nat := 255

end Sys2Proof.Config
end

