-- ==== Sys2Proof/Machine/State.lean ====
section
/-! DEFINITION. The state of the TN4816, block by block (00 section 1.2), its value right after reset, and the reasons a
step could stop. -/

namespace Sys2Proof.Machine

/-- A pair of things, one for each port. -/
structure PerPort (α : Type) where
  a : α
  b : α
  deriving DecidableEq, Repr

/-- A timer: stopped, or running with the time it was loaded with, in microseconds (log 1). -/
inductive Timer
  | stopped
  | running (us : Nat)
  deriving DecidableEq, Repr

/-! ### Directory (R159) and order programs (R23) -/

/-- The connection mode of a unit (R159). -/
inductive Mode
  | short
  | long
  deriving DecidableEq, Repr

/-- One directory entry; the silence limit counts 10 ms units (R159). -/
structure DirEntry where
  unit : UnitAddr
  mode : Mode
  home : Port
  silence : Byte
  deriving DecidableEq, Repr

/-- A directory: its entries and its lease period in units of 10 ms. The entry count is the length of `entries` (R159). -/
structure Directory where
  entries : List DirEntry
  lease : Byte
  deriving DecidableEq, Repr

/-- Descriptor kinds (R23). -/
inductive DescKind
  | input
  | output
  | ctrl
  | seg
  | jump
  deriving DecidableEq, Repr

/-- Descriptor links (R24). -/
inductive LinkField
  | endOrder
  | nextOrder
  | nextSegment
  deriving DecidableEq, Repr

/-- A descriptor a context holds: a checked copy (R3, R26). Ignored fields keep what was written (R186). -/
structure Descriptor where
  kind : DescKind
  code : Byte
  link : LinkField
  discard : Bool
  lengthOk : Bool
  milestone : Bool
  addr : Word
  count : Word
  deriving DecidableEq, Repr

/-- The current segment: next store address, bytes remaining (R1), and the page whose use count it raised (R49, log 16). -/
structure Segment where
  addr : Word
  remaining : Nat
  page : PageNo
  deriving DecidableEq, Repr

/-- The lookahead of an IN order (R35). -/
inductive Lookahead
  | absent
  | present (d : Descriptor) (addr : Word)
  | faulted
  deriving DecidableEq, Repr

/-- The cause of a halt request (R12). -/
inductive HaltCause
  | halt
  | adopt
  | portReset
  | storeFault
  | timeout
  deriving DecidableEq, Repr

/-! ### Records (R113) -/

/-- The completion conditions (R113). -/
inductive Cond
  | length
  | storeFault
  | programFault
  | linkFault
  | protocol
  | noUnit
  | refused
  | halted
  | adopted
  | timeout
  | linkReset
  | milestoneMissed
  deriving DecidableEq, Repr

/-- A set of completion conditions (R113). -/
structure Conds where
  length : Bool := false
  storeFault : Bool := false
  programFault : Bool := false
  linkFault : Bool := false
  protocol : Bool := false
  noUnit : Bool := false
  refused : Bool := false
  halted : Bool := false
  adopted : Bool := false
  timeout : Bool := false
  linkReset : Bool := false
  milestoneMissed : Bool := false
  deriving DecidableEq, Repr

/-- The fields of a COMPLETION record but its sequence number (R101). -/
structure Completion where
  unit : UnitAddr
  owner : Port
  lastDesc : Word
  resume : Word
  residual : Nat
  conds : Conds
  status : Option UStatus
  deriving DecidableEq, Repr

/-- The notice codes (R131). -/
inductive NoticeCode
  | configReady
  | configFailed
  | peerLapsed
  | peerResumed
  | adoptedAway
  | peerReset
  | strayUnit
  | linkResetDone
  deriving DecidableEq, Repr

/-- The four kinds of record, without the sequence number (R113). -/
inductive RecordBody
  | completion (c : Completion)
  | attention (unit : UnitAddr) (status : UStatus)
  | milestone (unit : UnitAddr) (addr : Word)
  | notice (code : NoticeCode) (arg : Option Nat)
  deriving DecidableEq, Repr

/-- A record in a completion queue, with the number it took as it entered (R116). -/
structure Record where
  seq : Word
  body : RecordBody
  deriving DecidableEq, Repr

/-! ### CTB (R1) -/

/-- The state of a context (R1). -/
inductive CtxState
  | idle
  | queued
  | selecting
  | connected
  | disconnected
  | held
  deriving DecidableEq, Repr

/-- A unit context (R1). The defaults are the values of an IDLE context (R10, R21). -/
structure Context where
  state : CtxState := .idle
  owner : Option Port := none
  desc : Option Descriptor := none
  descAddr : Option Word := none
  seg : Option Segment := none
  lookahead : Lookahead := .absent
  halt : Option HaltCause := none
  discard : Bool := false
  stopQueued : Bool := false
  conds : Conds := {}
  milestoneMissed : Bool := false
  adopted : Bool := false
  unitStatus : Option UStatus := none
  heldRecord : Option Completion := none
  silence : Timer := .stopped
  jumps : Nat := 0
  deriving DecidableEq, Repr

/-- The context table with its two queues (R1, R14, R15). -/
structure Ctb where
  contexts : Vector Context 32
  selectQ : List UnitAddr
  stopQ : List UnitAddr
  deriving DecidableEq, Repr

/-! ### LNK (R70) -/

/-- The five link states (R70). -/
inductive LinkState
  | inBreak
  | settle
  | opened
  | exchange
  | hold
  deriving DecidableEq, Repr

/-- The kinds of grant (R89). -/
inductive GrantKind
  | selection
  | haltSelection
  | poll
  | recall
  deriving DecidableEq, Repr

/-- The kinds of exchange (R70). `request` is an exchange of a LONG connection whose REQ is not known: it was corrupt and
is being asked for again by NAK (R74), or the connection is being ended by STP in the abandon form (log 7, log 10). -/
inductive ExKind
  | selection
  | haltSelection
  | poll
  | recall
  | dataIn
  | dataOut
  | status
  | request
  deriving DecidableEq, Repr

/-- The direction a SEL carries (R65). -/
inductive Direction
  | none
  | input
  | output
  deriving DecidableEq, Repr

/-- The two forms of STP (R65). -/
inductive StpForm
  | report
  | abandon
  deriving DecidableEq, Repr

/-- The frames the controller sends (R65). -/
inductive CtlFrame
  | sel (u : UnitAddr) (code : Byte) (mode : Mode) (dir : Direction)
  | poll
  | rcl (u : UnitAddr)
  | dat (u : UnitAddr) (data : List Byte)
  | ack (u : UnitAddr)
  | nak (u : UnitAddr)
  | stp (form : StpForm) (u : UnitAddr)
  | tak (u : UnitAddr)
  | dfr (u : UnitAddr)
  deriving DecidableEq, Repr

/-- The frames units send, as LNK classifies them (R64, R66). -/
inductive UnitFrame
  | rsp (u : UnitAddr) (st : UStatus)
  | req (u : UnitAddr) (mark : Bool) (body : ReqBody)
  | ack (u : UnitAddr)
  | nak (u : UnitAddr)
  | corrupt
  deriving DecidableEq, Repr

/-- The current exchange (R70): its kind, its unit, the frame last sent, the tries used, whether a corrupt frame has come
back; the grant that opened it, none for a unit's REQ in a LONG connection (R71); whether its frame is still being sent
(R72); and frames still to be sent after it (R85, log 8). -/
structure Exchange where
  kind : ExKind
  unit : Option UnitAddr
  frame : CtlFrame
  tries : Nat
  corrupt : Bool
  opener : Option GrantKind
  sending : Bool
  more : List CtlFrame
  deriving DecidableEq, Repr

/-- The REQ kinds an answer memory entry can hold (R83). -/
inductive AnsweredKind
  | inData
  | status
  deriving DecidableEq, Repr

/-- An answer memory entry that is not empty (R83). -/
structure Answer where
  kind : AnsweredKind
  frame : CtlFrame
  deriving DecidableEq, Repr

/-- The frame being received from the link: none, one LNK waited for, or one that is ignored (R64, R72). -/
inductive Reception
  | none
  | awaited
  | ignored
  deriving DecidableEq, Repr

/-- The link engine (R70). -/
structure Lnk where
  link : LinkState
  exchange : Option Exchange
  conn : Option UnitAddr
  replyTimer : Timer
  gapTimer : Timer
  linkTimer : Timer
  reception : Reception
  srqLine : Bool
  srqSampled : Bool
  grantMem : Option GrantKind
  answers : Vector (Option Answer) 32
  deriving DecidableEq, Repr

/-! ### RCM (R115 to R126) -/

/-- The record manager. -/
structure Rcm where
  queues : PerPort (List Record)
  seqs : PerPort Word
  heldLists : PerPort (List UnitAddr)
  deferred : List UnitAddr
  deriving DecidableEq, Repr

/-! ### STR (R46, R47) -/

/-- The tag of a page (R47). -/
inductive Tag
  | free
  | portA
  | portB
  | shared
  deriving DecidableEq, Repr

/-- A page entry (R47). -/
structure PageEntry where
  tag : Tag
  uses : Nat
  deriving DecidableEq, Repr

/-- The store's bytes: (address, byte), addresses rising, no entry of 00h, the value of an unlisted byte (R46). -/
abbrev Store := List Host.Cell

/-- The store and the page table. -/
structure Str where
  store : Store
  pages : Vector PageEntry 64
  deriving DecidableEq, Repr

/-! ### DSC (R150 to R160) -/

/-- The part states (R150). -/
inductive PartState
  | loading
  | unconfigured
  | ready
  deriving DecidableEq, Repr

/-- The last reset causes (R151). -/
inductive ResetCause
  | powerOn
  | pin
  | part
  deriving DecidableEq, Repr

/-- The configuration load states (R155, R157). -/
inductive LoadState
  | none
  | first
  | second
  | loaded
  | failed
  deriving DecidableEq, Repr

/-- A reset in progress: none, power-on, or RESET held asserted (R153, R187). -/
inductive ResetPhase
  | none
  | powerOn
  | held
  deriving DecidableEq, Repr

/-- The directory and start-up controller. -/
structure Dsc where
  part : PartState
  active : Option Directory
  staging : Vector (Option DirEntry) 32
  straps : Straps
  cause : ResetCause
  load : LoadState
  agreed : Option Port
  phase : ResetPhase
  resetPin : Bool
  deriving DecidableEq, Repr

/-! ### PIA and PIB (R135, R170) -/

/-- The port states (R135). -/
inductive PortState
  | active
  | lapsed
  deriving DecidableEq, Repr

/-- The PART_RESET request stamp: void, or set with its expiry timer (R164). -/
inductive Stamp
  | void
  | set (timer : Timer)
  deriving DecidableEq, Repr

/-- The result codes (R177). -/
inductive Result
  | ok
  | pending
  | busy
  | notOwner
  | noEntry
  | notReady
  | badArg
  | programFault
  | pageFault
  | inUse
  | empty
  | peerActive
  | idle
  | frameError
  | badCommand
  deriving DecidableEq, Repr

/-- A response: its result code and its data bytes (R168). -/
structure Response where
  code : Result
  data : List Byte
  deriving DecidableEq, Repr

/-- The frame receiver states (R170). -/
inductive ReceiverState
  | unselected
  | receiving
  | turnaround
  | responding
  | draining
  | ignoring
  deriving DecidableEq, Repr

/-- The frame receiver (R170): its state, the bytes of the frame taken, the count of bytes of the transaction, and the
response being sent. -/
structure Receiver where
  state : ReceiverState
  bytes : List Byte
  count : Nat
  response : Option Response
  deriving DecidableEq, Repr

/-- A port interface (R135, R170), with its chip select level (R181). The lease period counts 10 ms units. -/
structure PortIf where
  state : PortState
  leasePeriod : Byte
  lease : Timer
  lapseCount : Nat
  adoptedAway : Nat
  stamp : Stamp
  noticeLost : Bool
  receiver : Receiver
  chipSelect : Bool
  deriving DecidableEq, Repr

end Sys2Proof.Machine

namespace Sys2Proof.Machine

/-- The state of the part and the queue of commands that are waiting, first in, first out. -/
structure State where
  ports : PerPort PortIf
  ctb : Ctb
  lnk : Lnk
  rcm : Rcm
  str : Str
  dsc : Dsc
  pending : List Instr
  deriving DecidableEq, Repr

/-- The reasons a step could fault. Every command of the spec has an effect in every state, so no meaning raises one. -/
inductive Fault
  /-- An access outside the store. Nobody raises it: store addresses have 15 bits, and every command that names a byte
  outside 0000h to 7FFFh is answered BAD_ARG or PROGRAM_FAULT (R54, R55, R26). Safe. -/
  | storeRange
  deriving DecidableEq, Repr

/-- The reasons a step could be refused. -/
inductive Refusal
  /-- A command without a meaning, by its mnemonic; raised by an arm of exec not yet written, of which there is none. Safe. -/
  | notModelled (mnemonic : String)
  deriving DecidableEq, Repr

/-! ### Reset values -/

/-- A receiver with no transaction (R170). -/
def Receiver.unselected : Receiver := { state := .unselected, bytes := [], count := 0, response := none }

/-- A port interface after power-on (R135), chip select deasserted (log 3). -/
def PortIf.reset : PortIf :=
  { state := .active, leasePeriod := Config.defaultLease, lease := .stopped, lapseCount := 0, adoptedAway := 0,
    stamp := .void, noticeLost := false, receiver := Receiver.unselected, chipSelect := false }

/-- The context table after a part-level reset (R21). -/
def Ctb.reset : Ctb := { contexts := Vector.replicate 32 {}, selectQ := [], stopQ := [] }

/-- The link engine after a part-level reset, its link-reset timer not yet started (R70, R68, R88). -/
def Lnk.reset : Lnk :=
  { link := .inBreak, exchange := none, conn := none, replyTimer := .stopped, gapTimer := .stopped,
    linkTimer := .stopped, reception := .none, srqLine := false, srqSampled := false, grantMem := none,
    answers := Vector.replicate 32 none }

/-- The record manager after a part-level reset (R134). -/
def Rcm.reset : Rcm :=
  { queues := { a := [], b := [] }, seqs := { a := 0, b := 0 }, heldLists := { a := [], b := [] }, deferred := [] }

/-- The page table after a part-level reset (R61). -/
def pagesReset : Vector PageEntry 64 := Vector.replicate 64 { tag := .free, uses := 0 }

/-- The straps with every pin low (log 3). -/
def strapsLow : Straps := { cfgSrc := .memory, linkRate := .mbit2, cfgSpeed := .mhz1 }

/-- The directory controller after a power-on has ended with every strap low and RESET released (R153, log 3). -/
def Dsc.reset : Dsc :=
  { part := .loading, active := none, staging := Vector.replicate 32 none, straps := strapsLow, cause := .powerOn,
    load := .none, agreed := none, phase := .none, resetPin := false }

/-- The part at the moment a power-on reset has ended: every block at its reset value (R153) and the link-reset condition
of start-up begun (R154), with the pin levels of log 3. -/
def State.reset : State :=
  { ports := { a := PortIf.reset, b := PortIf.reset }, ctb := Ctb.reset,
    lnk := { Lnk.reset with linkTimer := .running Config.breakTime }, rcm := Rcm.reset,
    str := { store := [], pages := pagesReset }, dsc := Dsc.reset, pending := [] }

end Sys2Proof.Machine
end

