-- ==== Sys2Proof/Machine/Ops.lean ====
section
/-! DEFINITION. The named operations over the parts of the state: ports, contexts, queues, pages, the store, timers and the
directory. Every block's register and memory is read and written through them. -/

namespace Sys2Proof

/-- The peer of a port (00 section 3.2). -/
def Port.peer : Port → Port
  | .a => .b
  | .b => .a

namespace Machine

/-! ### Ports -/

/-- The half of a pair that belongs to port `p`. -/
def PerPort.get {α : Type} (x : PerPort α) : Port → α
  | .a => x.a
  | .b => x.b

/-- The pair with the half of port `p` replaced. -/
def PerPort.set {α : Type} (x : PerPort α) (p : Port) (v : α) : PerPort α :=
  match p with
  | .a => { x with a := v }
  | .b => { x with b := v }

/-- Port interface `p`. -/
def State.port (s : State) (p : Port) : PortIf := s.ports.get p

/-- `s` with port interface `p` changed by `f`. -/
def State.modPort (s : State) (p : Port) (f : PortIf → PortIf) : State :=
  { s with ports := s.ports.set p (f (s.port p)) }

/-! ### Timers (log 1) -/

/-- A timer started with a time in milliseconds. -/
def Timer.ms (n : Nat) : Timer := .running (n * 1000)

/-- A timer started with a time in units of 10 ms. -/
def Timer.tens (n : Byte) : Timer := Timer.ms (n.toNat * 10)

/-- Whether a timer runs. -/
def Timer.runs : Timer → Bool
  | .stopped => false
  | .running _ => true

/-! ### Contexts (R1) -/

/-- The context of a unit. -/
def State.ctx (s : State) (u : UnitAddr) : Context := s.ctb.contexts[u.val]

/-- `s` with the context of a unit changed by `f`. -/
def State.modCtx (s : State) (u : UnitAddr) (f : Context → Context) : State :=
  { s with ctb := { s.ctb with contexts := s.ctb.contexts.set u.val (f (s.ctx u)) } }

/-- `s` with the select queue changed by `f` (R14). -/
def State.modSelectQ (s : State) (f : List UnitAddr → List UnitAddr) : State :=
  { s with ctb := { s.ctb with selectQ := f s.ctb.selectQ } }

/-- `s` with the stop queue changed by `f` (R15). -/
def State.modStopQ (s : State) (f : List UnitAddr → List UnitAddr) : State :=
  { s with ctb := { s.ctb with stopQ := f s.ctb.stopQ } }

/-- A list of units without one of them; the others keep their order (R14, R15, R122, R126). -/
def without (u : UnitAddr) (l : List UnitAddr) : List UnitAddr := l.filter (fun v => v ≠ u)

/-- The unit addresses in ascending order. -/
def allUnits : List UnitAddr := List.finRange 32

/-- The unit a byte argument names, if it is 0 to 31. -/
def unitOf (x : Byte) : Option UnitAddr :=
  if h : x.toNat < 32 then some ⟨x.toNat, h⟩ else none

/-! ### Queues, counters and lists of RCM -/

/-- Completion queue `p` (R115). -/
def State.queue (s : State) (p : Port) : List Record := s.rcm.queues.get p

/-- `s` with completion queue `p` replaced. -/
def State.setQueue (s : State) (p : Port) (q : List Record) : State :=
  { s with rcm := { s.rcm with queues := s.rcm.queues.set p q } }

/-- The sequence counter of queue `p` (R116). -/
def State.seqNo (s : State) (p : Port) : Word := s.rcm.seqs.get p

/-- `s` with the sequence counter of queue `p` replaced. -/
def State.setSeqNo (s : State) (p : Port) (n : Word) : State :=
  { s with rcm := { s.rcm with seqs := s.rcm.seqs.set p n } }

/-- Held list `p` (R122). -/
def State.heldList (s : State) (p : Port) : List UnitAddr := s.rcm.heldLists.get p

/-- `s` with held list `p` replaced. -/
def State.setHeldList (s : State) (p : Port) (l : List UnitAddr) : State :=
  { s with rcm := { s.rcm with heldLists := s.rcm.heldLists.set p l } }

/-- `s` with the deferred list replaced (R126). -/
def State.setDeferred (s : State) (l : List UnitAddr) : State :=
  { s with rcm := { s.rcm with deferred := l } }

/-- ATN_X is asserted exactly when completion queue X is non-empty (R133). -/
def State.atn (s : State) (p : Port) : Bool := !(s.queue p).isEmpty

/-! ### The page table (R46, R47) -/

/-- The page of a store address: the integer part of the address divided by 512 (R46). -/
def pageOf (addr : Word) : PageNo := ⟨addr.toNat / 512 % 64, Nat.mod_lt _ (by decide)⟩

/-- The entry of a page (R47). -/
def State.page (s : State) (q : PageNo) : PageEntry := s.str.pages[q.val]

/-- `s` with the entry of a page changed by `f`. -/
def State.modPage (s : State) (q : PageNo) (f : PageEntry → PageEntry) : State :=
  { s with str := { s.str with pages := s.str.pages.set q.val (f (s.page q)) } }

/-- The tag that belongs to a port (R47). -/
def Tag.ofPort : Port → Tag
  | .a => .portA
  | .b => .portB

/-- The page check: the page is tagged to the port or SHARED (R47). -/
def State.pageOpen (s : State) (p : Port) (q : PageNo) : Bool :=
  (s.page q).tag = Tag.ofPort p || (s.page q).tag = Tag.shared

/-- Every page of a list takes a tag; use counts are kept (R50, R51, R52). -/
def State.tagPages (s : State) (t : Tag) (qs : List PageNo) : State :=
  qs.foldl (fun s q => s.modPage q (fun e => { e with tag := t })) s

/-- The pages `first` to `first + number - 1`, in page order. -/
def pageRange (first number : Nat) : List PageNo :=
  (List.range number).map (fun i => ⟨(first + i) % 64, Nat.mod_lt _ (by decide)⟩)

/-- The range check of R50. -/
def rangeOk (first number : Byte) : Bool :=
  first.toNat ≤ 63 && 1 ≤ number.toNat && number.toNat ≤ 64 && first.toNat + number.toNat - 1 ≤ 63

/-! ### The store (R46) -/

/-- The byte of a store list at an address; an unlisted byte is 00h, as after power-on (R46). -/
def Store.lookup : Store → Nat → Byte
  | [], _ => 0
  | (k, v) :: rest, a => if a = k then v else Store.lookup rest a

/-- A store list with one byte written; 00h is not listed, so equal stores are equal lists. -/
def Store.insert : Store → Nat → Byte → Store
  | [], a, b => if b = 0 then [] else [(a, b)]
  | (k, v) :: rest, a, b =>
    if a < k then (if b = 0 then (k, v) :: rest else (a, b) :: (k, v) :: rest)
    else if a = k then (if b = 0 then rest else (a, b) :: rest)
    else (k, v) :: Store.insert rest a b

/-- The canonical form of a store list: addresses strictly rising from `lo`, all below 8000h, no entry of 00h. -/
def Store.wfFrom : Nat → Store → Bool
  | _, [] => true
  | lo, (k, v) :: rest => lo ≤ k && k < 32768 && v ≠ 0 && Store.wfFrom (k + 1) rest

/-- The canonical form holds. -/
def Store.wf (m : Store) : Bool := Store.wfFrom 0 m

/-- The address lines of a store address (log 17). -/
def lines (a : Word) : StoreAddr := a.setWidth 15

/-- The store byte at an address. -/
def State.byteAt (s : State) (a : StoreAddr) : Byte := Store.lookup s.str.store a.toNat

/-- `s` with one store byte written. -/
def State.writeByte (s : State) (a : StoreAddr) (b : Byte) : State :=
  { s with str := { s.str with store := Store.insert s.str.store a.toNat b } }

/-- Bytes of the store, lowest address first (R54, R40). -/
def State.readBytes (s : State) (a : Word) : Nat → List Byte
  | 0 => []
  | n + 1 => s.byteAt (lines a) :: s.readBytes (a + 1) n

/-- `s` with bytes written, lowest address first (R55, R57). -/
def State.writeBytes (s : State) (a : Word) : List Byte → State
  | [] => s
  | b :: bs => (s.writeByte (lines a) b).writeBytes (a + 1) bs

/-! ### The directory (R159) -/

/-- The active directory's entry for a unit, if it has one (R159). -/
def State.entry (s : State) (u : UnitAddr) : Option DirEntry :=
  match s.dsc.active with
  | none => none
  | some d => d.entries.find? (fun e => e.unit = u)

/-- The mode of a unit; SHORT where it has no entry, which no context in use can see (R1). -/
def State.mode (s : State) (u : UnitAddr) : Mode :=
  match s.entry u with
  | none => .short
  | some e => e.mode

/-- The silence limit of a unit, in 10 ms units; 0 where it has no entry (R159). -/
def State.silenceLimit (s : State) (u : UnitAddr) : Byte :=
  match s.entry u with
  | none => 0
  | some e => e.silence

/-! ### The link engine -/

/-- The answer memory entry of a unit (R83). -/
def State.answer (s : State) (u : UnitAddr) : Option Answer := s.lnk.answers[u.val]

/-- `s` with the link engine changed by `f`. -/
def State.modLnk (s : State) (f : Lnk → Lnk) : State := { s with lnk := f s.lnk }

/-- `s` with the answer memory entry of a unit replaced (R83). -/
def State.setAnswer (s : State) (u : UnitAddr) (x : Option Answer) : State :=
  s.modLnk (fun l => { l with answers := l.answers.set u.val x })

/-- `s` with the directory controller changed by `f`. -/
def State.modDsc (s : State) (f : Dsc → Dsc) : State := { s with dsc := f s.dsc }

end Machine

end Sys2Proof
end

