-- ==== Sys2Proof/Machine/Flags.lean ====
section
/-! DEFINITION. The sets of conditions and status bits: how a completion condition is added, what a halt cause and the flags
of a context add at composition (R12, R101), and the encodings of the condition set and unit status (11.4). -/

namespace Sys2Proof.Machine

/-- A condition set with one condition added; a condition already present is not added again (R4). -/
def Conds.add (c : Conds) : Cond → Conds
  | .length => { c with length := true }
  | .storeFault => { c with storeFault := true }
  | .programFault => { c with programFault := true }
  | .linkFault => { c with linkFault := true }
  | .protocol => { c with protocol := true }
  | .noUnit => { c with noUnit := true }
  | .refused => { c with refused := true }
  | .halted => { c with halted := true }
  | .adopted => { c with adopted := true }
  | .timeout => { c with timeout := true }
  | .linkReset => { c with linkReset := true }
  | .milestoneMissed => { c with milestoneMissed := true }

/-- Whether a condition set holds a condition. -/
def Conds.has (c : Conds) : Cond → Bool
  | .length => c.length
  | .storeFault => c.storeFault
  | .programFault => c.programFault
  | .linkFault => c.linkFault
  | .protocol => c.protocol
  | .noUnit => c.noUnit
  | .refused => c.refused
  | .halted => c.halted
  | .adopted => c.adopted
  | .timeout => c.timeout
  | .linkReset => c.linkReset
  | .milestoneMissed => c.milestoneMissed

/-- The condition is added when the test holds. -/
def Conds.addIf (c : Conds) (test : Bool) (x : Cond) : Conds := if test then c.add x else c

/-- The condition a halt cause adds when the record is composed (R12). -/
def HaltCause.cond : HaltCause → Option Cond
  | .halt => some .halted
  | .adopt => some .halted
  | .portReset => some .halted
  | .storeFault => none
  | .timeout => some .timeout

/-- The conditions with that of the halt cause, if a halt request is set (R12). -/
def Conds.addCause (c : Conds) (halt : Option HaltCause) : Conds :=
  match halt.bind HaltCause.cond with
  | none => c
  | some x => c.add x

/-- The conditions of the COMPLETION record of a context: those so far, the halt cause's, HALTED and ADOPTED if adopted,
MILESTONE_MISSED if a milestone was missed (R101). -/
def Context.finalConds (c : Context) : Conds :=
  (((c.conds.addCause c.halt).addIf c.adopted .halted).addIf c.adopted .adopted).addIf c.milestoneMissed .milestoneMissed

/-- The condition bits, read as one number (11.4). -/
def Conds.bits (c : Conds) : Word :=
  BitVec.ofNat 16
    (c.length.toNat + 2 * c.storeFault.toNat + 4 * c.programFault.toNat + 8 * c.linkFault.toNat
      + 16 * c.protocol.toNat + 32 * c.noUnit.toNat + 64 * c.refused.toNat + 128 * c.halted.toNat
      + 256 * c.adopted.toNat + 512 * c.timeout.toNat + 1024 * c.linkReset.toNat + 2048 * c.milestoneMissed.toNat)

/-- The unit status {DONE} (R10, 11.4). -/
def doneOnly : UStatus := 1

/-- A halt request is set with a cause if none is set; the first cause stands (R12). -/
def Context.requestHalt (c : Context) (cause : HaltCause) : Context :=
  { c with halt := some (c.halt.getD cause) }

/-- A condition is gained by a context (R4). -/
def Context.gain (c : Context) (x : Cond) : Context := { c with conds := c.conds.add x }

end Sys2Proof.Machine
end

