-- ==== Sys2Proof/Machine/Frames.lean ====
section
/-! DEFINITION. Check values and frame layouts: the CRC-8 and command frames of the ports (R168, R169, R176), the CRC-16 and
frames of the unit link (R63 to R66, R186, 11.6). -/

namespace Sys2Proof.Machine

/-! ### Two-byte fields (11.1: most significant byte first) -/

/-- The most significant byte of a two-byte field. -/
def hiByte (w : Word) : Byte := (w >>> 8).setWidth 8

/-- The least significant byte of a two-byte field. -/
def loByte (w : Word) : Byte := w.setWidth 8

/-- A two-byte field from its bytes, most significant first. -/
def wordOf (hi lo : Byte) : Word := hi ++ lo

/-! ### CRC-8 (R169) -/

/-- One bit of the CRC-8 register: generator 07h, most significant bit first. -/
def crc8Bit (r : Byte) : Byte := if r.msb then (r <<< 1) ^^^ 0x07 else r <<< 1

/-- The CRC-8 register after one more byte. -/
def crc8Byte (r b : Byte) : Byte := Nat.repeat crc8Bit 8 (r ^^^ b)

/-- The CRC-8 of a run of bytes: initial value FFh, result not inverted (R169). -/
def crc8 (bs : List Byte) : Byte := bs.foldl crc8Byte 0xFF

/-! ### CRC-16 (11.5) -/

/-- One bit of the CRC-16 register: generator 1021h, most significant bit first. -/
def crc16Bit (r : Word) : Word := if r.msb then (r <<< 1) ^^^ 0x1021 else r <<< 1

/-- The CRC-16 register after one more byte. -/
def crc16Byte (r : Word) (b : Byte) : Word := Nat.repeat crc16Bit 8 (r ^^^ (wordOf b 0))

/-- The CRC-16 of a run of bytes: initial value FFFFh, result not inverted (11.5). -/
def crc16 (bs : List Byte) : Word := bs.foldl crc16Byte 0xFFFF

/-! ### Command frames (R168) -/

/-- The command frame of a code and its argument bytes, with its CRC-8 (R168). -/
def commandFrame (code : Byte) (args : List Byte) : List Byte :=
  let body := code :: BitVec.ofNat 8 args.length :: args
  body ++ [crc8 body]

/-- The argument lengths a command code accepts; false for a code assigned to no command (R176, 11.2). -/
def lengthAccepted (code n : Nat) : Bool :=
  match code with
  | 0x01 => n = 0
  | 0x02 => n = 0
  | 0x03 => n = 3
  | 0x04 => n = 1
  | 0x05 => n = 1
  | 0x06 => n = 1
  | 0x07 => n = 0
  | 0x08 => n = 0
  | 0x09 => n = 0
  | 0x0A => n = 3
  | 0x0B => 3 ≤ n && n ≤ 66
  | 0x0C => n = 2
  | 0x0D => n = 2
  | 0x0E => n = 2
  | 0x0F => n = 2
  | 0x10 => n = 0
  | 0x11 => n = 0
  | 0x12 => n = 0
  | 0x13 => n = 5
  | 0x14 => n = 2
  | 0x15 => n = 1
  | _ => false

/-- A list of bytes is a whole command frame: code, length of at most 70, that many arguments, CRC-8 (R168, R172). -/
def frameWhole (frame : List Byte) : Bool :=
  match frame with
  | _ :: len :: rest => len.toNat ≤ Config.maxArgs && rest.length = len.toNat + 1
  | _ => false

/-- The CRC-8 a whole frame carries equals the one computed over the bytes before it (R169). -/
def frameGood (frame : List Byte) : Bool := frame.getLast? = some (crc8 frame.dropLast)

/-! ### Unit-link frames (11.6) -/

/-- The mode and direction byte of a SEL (11.6). -/
def selByte (mode : Mode) (dir : Direction) : Byte :=
  (match mode with | .short => 0 | .long => 1) ||| (match dir with | .none => 0 | .input => 2 | .output => 4)

/-- The address byte of a unit. -/
def unitByte (u : UnitAddr) : Byte := BitVec.ofNat 8 u.val

/-- Type, address and payload of a controller frame (11.6, R65). -/
def CtlFrame.fields : CtlFrame → Byte × Byte × List Byte
  | .sel u code mode dir => (0x10, unitByte u, [code, selByte mode dir])
  | .poll => (0x11, 0, [])
  | .rcl u => (0x12, unitByte u, [])
  | .dat u data => (0x13, unitByte u, data)
  | .ack u => (0x14, unitByte u, [])
  | .nak u => (0x15, unitByte u, [])
  | .stp .report u => (0x16, unitByte u, [])
  | .stp .abandon u => (0x17, unitByte u, [])
  | .tak u => (0x18, unitByte u, [])
  | .dfr u => (0x19, unitByte u, [])

/-- A link frame on the wire: preamble, delimiter, type, address, payload length, payload, CRC-16 (11.6). -/
def wireFrame (ty addr : Byte) (payload : List Byte) : List Byte :=
  let body := ty :: addr :: BitVec.ofNat 8 payload.length :: payload
  [0x55, 0x55, 0xD5] ++ body ++ [hiByte (crc16 body), loByte (crc16 body)]

/-- The bytes of a controller frame on the wire (11.6). -/
def CtlFrame.wire (f : CtlFrame) : List Byte := wireFrame f.fields.1 f.fields.2.1 f.fields.2.2

/-- Whether a controller frame calls for a reply: SEL, POLL, RCL, DAT and NAK do (R72). -/
def CtlFrame.callsForReply : CtlFrame → Bool
  | .sel .. => true
  | .poll => true
  | .rcl _ => true
  | .dat .. => true
  | .nak _ => true
  | .ack _ => false
  | .stp .. => false
  | .tak _ => false
  | .dfr _ => false

/-- The time a frame of n payload bytes takes on the wire, in microseconds (R63). -/
def frameTime (rate : LinkRate) (n : Nat) : Nat :=
  match rate with
  | .mbit2 => (8 + n) * 8 / 2
  | .mbit4 => (8 + n) * 8 / 4

/-- The status bits of a status byte; bits 7 to 5 are discarded (R186). -/
def statusOf (b : Byte) : UStatus := b.setWidth 5

/-- The status byte of a set of status bits (11.4). -/
def statusByte (st : UStatus) : Byte := st.setWidth 8

/-- The unit frame a type, an address and a payload spell; a type not of a unit, an address above 31 or a payload that
does not suit the type makes the frame corrupt (R64, R186, 11.6). -/
def unitFrameOf (ty addr : Byte) (payload : List Byte) : UnitFrame :=
  match unitOf addr with
  | none => .corrupt
  | some u =>
    match ty.toNat, payload with
    | 0x20, data => if 1 ≤ data.length ∧ data.length ≤ Config.frameBytes then .req u false (.inData data) else .corrupt
    | 0x28, data => if 1 ≤ data.length ∧ data.length ≤ Config.frameBytes then .req u true (.inData data) else .corrupt
    | 0x21, [] => .req u false .outData
    | 0x29, [] => .req u true .outData
    | 0x22, [st] => .req u false (.status st)
    | 0x2A, [st] => .req u true (.status st)
    | 0x23, [st] => .rsp u (statusOf st)
    | 0x24, [] => .ack u
    | 0x25, [] => .nak u
    | _, _ => .corrupt

/-- LNK's classification of the bytes received for one frame (R64): the unit frame they spell, or corrupt. -/
def classifyFrame (wire : List Byte) : UnitFrame :=
  match wire with
  | 0x55#8 :: 0x55#8 :: 0xD5#8 :: ty :: addr :: len :: rest =>
    if len.toNat ≤ 16 ∧ rest.length = len.toNat + 2 then
      let payload := rest.take len.toNat
      if rest.drop len.toNat = [hiByte (crc16 (ty :: addr :: len :: payload)), loByte (crc16 (ty :: addr :: len :: payload))]
      then unitFrameOf ty addr payload
      else .corrupt
    else .corrupt
  | _ => .corrupt

/-- The type and payload of a good unit frame (11.6, R66). -/
def UnitFrame.wire : UnitFrame → List Byte
  | .rsp u st => wireFrame 0x23 (unitByte u) [statusByte st]
  | .req u false (.inData data) => wireFrame 0x20 (unitByte u) data
  | .req u true (.inData data) => wireFrame 0x28 (unitByte u) data
  | .req u false .outData => wireFrame 0x21 (unitByte u) []
  | .req u true .outData => wireFrame 0x29 (unitByte u) []
  | .req u false (.status st) => wireFrame 0x22 (unitByte u) [st]
  | .req u true (.status st) => wireFrame 0x2A (unitByte u) [st]
  | .ack u => wireFrame 0x24 (unitByte u) []
  | .nak u => wireFrame 0x25 (unitByte u) []
  | .corrupt => []

end Sys2Proof.Machine
end

