-- ==== Sys2Proof/Machine/Operands.lean ====
section
/-! DEFINITION. The byte layouts commands read and answer with: descriptors (11.3), records (11.4), the directory image (11.5)
and the response data of the port commands (11.2). -/

namespace Sys2Proof.Machine

/-! ### Descriptors (11.3) -/

/-- A descriptor as read from the store: kind and link are none where the encoding is outside the table (R186). -/
structure RawDescriptor where
  kind : Option DescKind
  code : Byte
  link : Option LinkField
  discard : Bool
  lengthOk : Bool
  milestone : Bool
  addr : Word
  count : Word
  deriving DecidableEq, Repr

/-- The kind of byte 0 bits 3 to 0 (11.3, R186). -/
def kindOf (b : Byte) : Option DescKind :=
  match b.toNat % 16 with
  | 1 => some .input
  | 2 => some .output
  | 3 => some .ctrl
  | 4 => some .seg
  | 5 => some .jump
  | _ => none

/-- The link of byte 0 bits 5 to 4 (11.3, R186). -/
def linkOf (b : Byte) : Option LinkField :=
  match b.toNat / 16 % 4 with
  | 0 => some .endOrder
  | 1 => some .nextOrder
  | 2 => some .nextSegment
  | _ => none

/-- A descriptor from its eight bytes (11.3); byte 3, byte 0 bits 7-6 and byte 2 bits 7-3 are ignored (R186). -/
def rawDescriptor (b0 b1 b2 b4 b5 b6 b7 : Byte) : RawDescriptor :=
  { kind := kindOf b0, code := b1, link := linkOf b0,
    discard := b2.getLsbD 0, lengthOk := b2.getLsbD 1, milestone := b2.getLsbD 2,
    addr := wordOf b4 b5, count := wordOf b6 b7 }

/-- The descriptor at a store address, read as eight bytes at once (R25). -/
def State.descriptorAt (s : State) (a : Word) : RawDescriptor :=
  rawDescriptor (s.byteAt (lines a)) (s.byteAt (lines (a + 1))) (s.byteAt (lines (a + 2))) (s.byteAt (lines (a + 4)))
    (s.byteAt (lines (a + 5))) (s.byteAt (lines (a + 6))) (s.byteAt (lines (a + 7)))

/-- A store address at which a descriptor can lie: 8-aligned and no greater than 7FF8h (R23). -/
def descriptorAddr (a : Nat) : Bool := a % 8 = 0 && a ≤ 0x7FF8

/-! ### Records (11.4) -/

/-- The notice codes (11.4). -/
def NoticeCode.code : NoticeCode → Byte
  | .configReady => 0x01
  | .configFailed => 0x02
  | .peerLapsed => 0x03
  | .peerResumed => 0x04
  | .peerReset => 0x05
  | .adoptedAway => 0x06
  | .strayUnit => 0x07
  | .linkResetDone => 0x08

/-- The byte of a Bool bit. -/
def bit (b : Bool) (n : Nat) : Byte := if b then BitVec.ofNat 8 (2 ^ n) else 0

/-- The 16 bytes of a record (11.4). The argument byte of a NOTICE without an argument is 00h (the model's choice, log 32). -/
def Record.bytes (r : Record) : List Byte :=
  match r.body with
  | .completion c =>
    [1, hiByte r.seq, loByte r.seq, unitByte c.unit, bit (c.owner = .b) 0 ||| bit c.status.isSome 1,
      statusByte (c.status.getD 0), hiByte c.lastDesc, loByte c.lastDesc, hiByte c.resume, loByte c.resume,
      hiByte (BitVec.ofNat 16 c.residual), loByte (BitVec.ofNat 16 c.residual), hiByte c.conds.bits, loByte c.conds.bits,
      0, 0]
  | .attention u st => [2, hiByte r.seq, loByte r.seq, unitByte u, 0, statusByte st, 0, 0, 0, 0, 0, 0, 0, 0, 0, 0]
  | .milestone u a =>
    [3, hiByte r.seq, loByte r.seq, unitByte u, 0, 0, hiByte a, loByte a, 0, 0, 0, 0, 0, 0, 0, 0]
  | .notice code arg =>
    [4, hiByte r.seq, loByte r.seq, code.code, bit arg.isSome 0, BitVec.ofNat 8 (arg.getD 0), 0, 0, 0, 0, 0, 0, 0, 0, 0, 0]

/-! ### Response data (11.2) -/

/-- The result codes, in the order of R177 (11.2). -/
def Result.byte : Result → Byte
  | .ok => 0x00
  | .pending => 0x01
  | .busy => 0x02
  | .notOwner => 0x03
  | .noEntry => 0x04
  | .notReady => 0x05
  | .badArg => 0x06
  | .programFault => 0x07
  | .pageFault => 0x08
  | .inUse => 0x09
  | .empty => 0x0A
  | .peerActive => 0x0B
  | .idle => 0x0C
  | .frameError => 0x0D
  | .badCommand => 0x0E

/-- The bytes of a response frame, with its CRC-8 (R168, R169). -/
def Response.wire (r : Response) : List Byte :=
  let body := r.code.byte :: BitVec.ofNat 8 r.data.length :: r.data
  body ++ [crc8 body]

/-- A response without data. -/
def Response.bare (c : Result) : Response := { code := c, data := [] }

/-- The part state's code (11.2). -/
def PartState.byte : PartState → Byte
  | .loading => 0
  | .unconfigured => 1
  | .ready => 2

/-- The load state's code (11.2). -/
def LoadState.byte : LoadState → Byte
  | .none => 0
  | .first => 1
  | .second => 2
  | .loaded => 3
  | .failed => 4

/-- The reset cause's code (11.2). -/
def ResetCause.byte : ResetCause → Byte
  | .powerOn => 0
  | .pin => 1
  | .part => 2

/-- The straps' byte (11.2). -/
def strapsByte (x : Straps) : Byte :=
  bit (x.cfgSrc = .portLoad) 0 ||| bit (x.linkRate = .mbit4) 1 ||| bit (x.cfgSpeed = .mhz8) 2

/-- The 11 bytes of READ_STATUS for port `p` (R178, 11.2). -/
def State.statusBytes (s : State) (p : Port) : List Byte :=
  let own := s.port p
  [bit (own.state = .lapsed) 0 ||| bit ((s.port p.peer).state = .lapsed) 1 ||| bit own.noticeLost 2,
    s.dsc.part.byte, s.dsc.load.byte, BitVec.ofNat 8 (s.queue p).length, BitVec.ofNat 8 (s.heldList p).length,
    BitVec.ofNat 8 s.rcm.deferred.length, BitVec.ofNat 8 own.lapseCount, BitVec.ofNat 8 own.adoptedAway,
    own.leasePeriod, s.dsc.cause.byte, strapsByte s.dsc.straps]

/-- The context state's code (11.2). -/
def CtxState.byte : CtxState → Byte
  | .idle => 0
  | .queued => 1
  | .selecting => 2
  | .connected => 3
  | .disconnected => 4
  | .held => 5

/-- The owner's code (11.2). -/
def ownerByte : Option Port → Byte
  | some .a => 0
  | some .b => 1
  | none => 0xFF

/-- The lookahead's code (11.2). -/
def Lookahead.byte : Lookahead → Byte
  | .absent => 0
  | .present _ _ => 1
  | .faulted => 2

/-- The halt cause's code (11.2). -/
def haltByte : Option HaltCause → Byte
  | none => 0
  | some .halt => 1
  | some .adopt => 2
  | some .portReset => 3
  | some .storeFault => 4
  | some .timeout => 5

/-- The residual QUERY_UNIT returns: the current segment's remaining count, in HELD the held record's residual, else 0 (R19). -/
def Context.queryResidual (c : Context) : Nat :=
  match c.state, c.heldRecord with
  | .held, some r => r.residual
  | _, _ => match c.seg with
    | some g => g.remaining
    | none => 0

/-- The position of a HELD unit in its owner's held list, 1 the oldest; 0 otherwise (R19). -/
def State.heldPosition (s : State) (u : UnitAddr) : Nat :=
  match (s.ctx u).state, (s.ctx u).owner with
  | .held, some p => (s.heldList p).idxOf u + 1
  | _, _ => 0

/-- The 9 bytes of QUERY_UNIT (R19, 11.2). -/
def State.unitBytes (s : State) (u : UnitAddr) : List Byte :=
  let c := s.ctx u
  let d : Word := c.descAddr.getD 0xFFFF
  let r : Word := BitVec.ofNat 16 c.queryResidual
  [c.state.byte, ownerByte c.owner, hiByte d, loByte d, hiByte r, loByte r, c.lookahead.byte, haltByte c.halt,
    BitVec.ofNat 8 (s.heldPosition u)]

/-- The tag's code (11.2). -/
def Tag.code : Tag → Byte
  | .free => 0
  | .portA => 1
  | .portB => 2
  | .shared => 3

/-- The byte of a page entry: tag in bits 7-6, use count in bits 5-0 (11.2). -/
def PageEntry.byte (e : PageEntry) : Byte := (e.tag.code <<< 6) ||| (BitVec.ofNat 8 e.uses &&& 0x3F)

/-- The byte of a page number. -/
def pageByte (q : PageNo) : Byte := BitVec.ofNat 8 q.val

/-- The mode's code (11.5). -/
def Mode.byte : Mode → Byte
  | .short => 0
  | .long => 1

/-- The port's code (11.5). -/
def portByte : Port → Byte
  | .a => 0
  | .b => 1

/-- The four bytes of a directory entry (11.5). -/
def DirEntry.bytes (e : DirEntry) : List Byte := [unitByte e.unit, e.mode.byte, portByte e.home, e.silence]

/-! ### Directory entries and the image (R156, R160, 11.5) -/

/-- A mode byte; none above 1 (R186). -/
def modeOf (b : Byte) : Option Mode :=
  match b.toNat with
  | 0 => some .short
  | 1 => some .long
  | _ => none

/-- A home port byte; none above 1 (R186). -/
def portOf (b : Byte) : Option Port :=
  match b.toNat with
  | 0 => some .a
  | 1 => some .b
  | _ => none

/-- A directory entry from its four bytes, none where a field holds no defined value (R156 check 6, R160). -/
def dirEntryOf (unit mode home silence : Byte) : Option DirEntry :=
  match unitOf unit, modeOf mode, portOf home with
  | some u, some m, some h => some { unit := u, mode := m, home := h, silence := silence }
  | _, _, _ => none

/-- The first `n` entries of an image's bytes after its header (11.5). -/
def imageEntries : Nat → List Byte → Option (List DirEntry)
  | 0, _ => some []
  | n + 1, u :: m :: h :: l :: rest =>
    match dirEntryOf u m h l, imageEntries n rest with
    | some e, some es => some (e :: es)
    | _, _ => none
  | _ + 1, _ => none

/-- No unit address appears in two entries (R156 check 7, R161 check 4). -/
def distinctUnits : List DirEntry → Bool
  | [] => true
  | e :: es => es.all (fun f => f.unit ≠ e.unit) && distinctUnits es

/-- The directory of a valid image, none where a check of R156 fails. -/
def directoryOf (image : List Byte) : Option Directory :=
  match image with
  | s0 :: s1 :: s2 :: s3 :: version :: count :: lease :: rest =>
    if s0 = 0x54 ∧ s1 = 0x43 ∧ s2 = 0x4E ∧ s3 = 0x64 ∧ version = 1 ∧ count.toNat ≤ 32 ∧ 1 ≤ lease.toNat
        ∧ rest.length = 4 * count.toNat + 2 then
      let covered := image.take (7 + 4 * count.toNat)
      if rest.drop (4 * count.toNat) = [hiByte (crc16 covered), loByte (crc16 covered)] then
        match imageEntries count.toNat rest with
        | some es => if distinctUnits es then some { entries := es, lease := lease } else none
        | none => none
      else none
    else none
  | _ => none

end Sys2Proof.Machine
end

