-- ==== Sys2Proof/Machine/Records.lean ====
section
/-! DEFINITION. The record manager's shared operations: placing, holding, deferring and dropping records (R115 to R117),
the refill (R120), notices (R131), target ports and the recall test (R124, R127), unsolicited and deferred status
(R125, R128); and a context's entry into IDLE with its page accounting (R10, R32). -/

namespace Sys2Proof.Machine

/-! ### Segments ceasing and contexts entering IDLE -/

/-- The use count of a page falls by one (R49). -/
def State.lowerPage (s : State) (q : PageNo) : State := s.modPage q (fun e => { e with uses := e.uses - 1 })

/-- The use count of a page rises by one (R49). -/
def State.raisePage (s : State) (q : PageNo) : State := s.modPage q (fun e => { e with uses := e.uses + 1 })

/-- The use count of the page of a segment, if there is one, falls by one (R49). -/
def State.lowerSeg (s : State) : Option Segment → State
  | none => s
  | some g => s.lowerPage g.page

/-- The current segment of a context, if any, ceases and its page's use count falls (R32). -/
def ceaseSegment (u : UnitAddr) (s : State) : State :=
  (s.modCtx u (fun c => { c with seg := none })).lowerSeg (s.ctx u).seg

/-- A context enters IDLE: every field but the state becomes absent, cleared, stopped or 0 (R10). -/
def goIdle (u : UnitAddr) (s : State) : State := (ceaseSegment u s).modCtx u (fun _ => {})

/-! ### Placement (R117) -/

/-- Queue `p` is full for a record: it holds 16 records, or held list `p` is not empty (R117). -/
def State.queueFull (s : State) (p : Port) : Bool :=
  Config.queueDepth ≤ (s.queue p).length || !(s.heldList p).isEmpty

/-- A record enters the tail of queue `p` and takes its sequence number (R116). -/
def enqueue (p : Port) (b : RecordBody) (s : State) : State :=
  (s.setQueue p (s.queue p ++ [{ seq := s.seqNo p, body := b }])).setSeqNo p (s.seqNo p + 1)

/-- A notice is offered to queue `p`: placed, or dropped with NOTICE_LOST set (R117, R131, R132). -/
def offerNotice (p : Port) (code : NoticeCode) (arg : Option Nat) (s : State) : State :=
  if s.queueFull p then s.modPort p (fun x => { x with noticeLost := true })
  else enqueue p (.notice code arg) s

/-- A notice is offered to both queues, each separately (R131). -/
def offerBoth (code : NoticeCode) (arg : Option Nat) (s : State) : State :=
  offerNotice .b code arg (offerNotice .a code arg s)

/-- A MILESTONE record of a context is offered to its owner's queue: placed, or dropped with milestone missed set (R130). -/
def offerMilestone (u : UnitAddr) (addr : Word) (s : State) : State :=
  match (s.ctx u).owner with
  | none => s
  | some p =>
    if s.queueFull p then s.modCtx u (fun c => { c with milestoneMissed := true })
    else enqueue p (.milestone u addr) s

/-- A context enters HELD with its COMPLETION record and joins the tail of held list `p` (R11, R117). It keeps its owner,
its descriptor address and its accounting fields (log 23). -/
def holdRecord (p : Port) (u : UnitAddr) (r : Completion) (s : State) : State :=
  (s.modCtx u (fun c =>
    { c with state := .held, desc := none, lookahead := .absent, halt := none, stopQueued := false,
             silence := .stopped, heldRecord := some r })).setHeldList p (s.heldList p ++ [u])

/-- A COMPLETION record is offered to queue `p`: placed with its context going to IDLE, or held (R10, R117). -/
def offerCompletion (p : Port) (u : UnitAddr) (r : Completion) (s : State) : State :=
  if s.queueFull p then holdRecord p u r s else goIdle u (enqueue p (.completion r) s)

/-! ### Removal and refill (R118, R120) -/

/-- The refill of queue `p` after a removal: the head of held list `p` leaves it, its record enters the queue, and its
context goes to IDLE (R120). -/
def refill (p : Port) (s : State) : State :=
  match s.heldList p with
  | [] => s
  | u :: rest =>
    let s1 := s.setHeldList p rest
    match (s.ctx u).heldRecord with
    | none => goIdle u s1
    | some r => goIdle u (enqueue p (.completion r) s1)

/-- The record at the head of queue `p` is removed and the queue refilled (R118, R120). -/
def removeHead (p : Port) (s : State) : State := refill p (s.setQueue p (s.queue p).tail)

/-! ### Target ports and recalls (R124 to R128) -/

/-- The target port of a unit's status, computed when needed (R124); none for an IDLE unit without a directory entry. -/
def State.target (s : State) (u : UnitAddr) : Option Port :=
  if (s.ctx u).state = .idle then
    match s.entry u with
    | none => none
    | some e => if (s.port e.home).state = .lapsed then some e.home.peer else some e.home
  else (s.ctx u).owner

/-- The target queue of a unit is full for an ATTENTION record (R117, R125). -/
def State.targetFull (s : State) (u : UnitAddr) : Bool :=
  match s.target u with
  | none => true
  | some p => s.queueFull p

/-- The unit owed a recall: the oldest deferred unit whose target queue is not full (R127, log 24). -/
def State.recallOwed (s : State) : Option UnitAddr := s.rcm.deferred.find? (fun u => !s.targetFull u)

/-- An ATTENTION record of a unit is placed in its target queue. -/
def placeAttention (u : UnitAddr) (st : UStatus) (s : State) : State :=
  match s.target u with
  | none => s
  | some p => enqueue p (.attention u st) s

/-- RCM answers unsolicited status: true is TAK with an ATTENTION record, false is DFR with the unit on the deferred list
(R125). -/
def takeUnsolicited (u : UnitAddr) (st : UStatus) (s : State) : State × Bool :=
  if u ∈ s.rcm.deferred then (s, false)
  else if s.targetFull u then (s.setDeferred (s.rcm.deferred ++ [u]), false)
  else (placeAttention u st s, true)

/-- RCM answers deferred status in a recall: true is TAK and the unit leaves the list, false is DFR and the unit goes to the
tail (R128). -/
def takeDeferred (u : UnitAddr) (st : UStatus) (s : State) : State × Bool :=
  if s.targetFull u then (s.setDeferred (without u s.rcm.deferred ++ [u]), false)
  else
    let s1 := placeAttention u st s
    (s1.setDeferred (without u s1.rcm.deferred), true)

/-- A stray request's notice, offered to both queues with the address it names (R85). -/
def offerStray (u : UnitAddr) (s : State) : State := offerBoth .strayUnit (some u.val) s

/-- RCM takes a failed recall: the unit leaves the deferred list and a STRAY_UNIT notice names it (R78, R126). -/
def recallLost (u : UnitAddr) (s : State) : State :=
  offerStray u (s.setDeferred (without u s.rcm.deferred))

end Sys2Proof.Machine
end

