-- ==== Sys2Proof/Machine/Orders.lean ====
section
/-! DEFINITION. The context table's shared operations: fetching and checking descriptors (R25 to R28), segments and lookahead
(R31 to R35), placing input and forming output (R36 to R41), the end of an order (R10, R42 to R45, R101), halt requests
and the stop queue (R12, R15), the silence timer (R9), adoption (R144, R145). -/

namespace Sys2Proof.Machine

/-! ### Fetching descriptors (R25 to R27) -/

/-- The purpose of a fetch; a segment fetch names the kind of the order (R25, R26). -/
inductive FetchFor
  | order
  | segment (kind : DescKind)
  deriving DecidableEq, Repr

/-- What one descriptor read in a fetch yields: failure, a descriptor, or a JUMP to follow. -/
inductive FetchRead
  | fail
  | found (d : Descriptor)
  | jump (target : Word)
  deriving DecidableEq, Repr

/-- What a fetch yields, with the jump count it leaves (R25, R27). -/
structure Fetched where
  found : Option (Descriptor × Word)
  jumps : Nat
  deriving DecidableEq, Repr

/-- Check 2 of R26: the kind suits the purpose. -/
def kindSuits (purpose : FetchFor) (k : DescKind) : Bool :=
  match purpose, k with
  | .order, .input => true
  | .order, .output => true
  | .order, .ctrl => true
  | .order, .seg => false
  | .segment _, .seg => true
  | .segment _, .input => false
  | .segment _, .output => false
  | .segment _, .ctrl => false
  | _, .jump => true

/-- Check 4 of R26: the order code is 01h to FEh on IN, OUT and CTRL. -/
def codeOk (k : DescKind) (code : Byte) : Bool := k = .seg || (1 ≤ code.toNat && code.toNat ≤ 0xFE)

/-- Check 5 of R26: the link is one of the three, and not NEXT_SEGMENT on a CTRL. -/
def linkOk (k : DescKind) (l : LinkField) : Bool := !(k = .ctrl && l = .nextSegment)

/-- Check 6 of R26: on IN, OUT and SEG the address is no greater than 7FFFh, the count is 1 to 512, and the data area lies
within one page. -/
def areaOk (k : DescKind) (addr count : Word) : Bool :=
  k = .ctrl || (addr.toNat ≤ 0x7FFF && 1 ≤ count.toNat && count.toNat ≤ 512 && addr.toNat % 512 + count.toNat ≤ 512)

/-- Check 7 of R26: DISCARD is clear on an OUT, a CTRL, and a SEG fetched for an OUT order. -/
def discardOk (purpose : FetchFor) (k : DescKind) (discard : Bool) : Bool :=
  !discard || (k = .input || (k = .seg && purpose = .segment .input))

/-- The checks 2 to 7 of R26 on a descriptor read; check 3 on a JUMP's target is made here, its count in `fetchFrom`. -/
def judgeDescriptor (purpose : FetchFor) (r : RawDescriptor) : FetchRead :=
  match r.kind with
  | none => .fail
  | some .jump => if descriptorAddr r.addr.toNat then .jump r.addr else .fail
  | some k =>
    match r.link with
    | none => .fail
    | some l =>
      if kindSuits purpose k && codeOk k r.code && linkOk k l && areaOk k r.addr r.count
          && discardOk purpose k r.discard then
        .found { kind := k, code := r.code, link := l, discard := r.discard, lengthOk := r.lengthOk,
                 milestone := r.milestone, addr := r.addr, count := r.count }
      else .fail

/-- One read of a fetch at an address: the address must name a descriptor (R25), its page must be open to the owner
(R26 check 1), and the descriptor must pass its checks. -/
def fetchRead (purpose : FetchFor) (owner : Port) (s : State) (addr : Nat) : FetchRead :=
  if descriptorAddr addr then
    if s.pageOpen owner (pageOf (BitVec.ofNat 16 addr)) then
      judgeDescriptor purpose (s.descriptorAt (BitVec.ofNat 16 addr))
    else .fail
  else .fail

/-- A fetch with so many JUMPs still allowed: a JUMP read with none left fails (R27). -/
def fetchFrom (purpose : FetchFor) (owner : Port) (s : State) : Nat → Nat → Fetched
  | 0, addr =>
    match fetchRead purpose owner s addr with
    | .found d => { found := some (d, BitVec.ofNat 16 addr), jumps := Config.maxJumps }
    | .jump _ => { found := none, jumps := Config.maxJumps }
    | .fail => { found := none, jumps := Config.maxJumps }
  | left + 1, addr =>
    match fetchRead purpose owner s addr with
    | .found d => { found := some (d, BitVec.ofNat 16 addr), jumps := Config.maxJumps - (left + 1) }
    | .jump t => fetchFrom purpose owner s left t.toNat
    | .fail => { found := none, jumps := Config.maxJumps - (left + 1) }

/-- A whole fetch from a start address (R25). -/
def fetch (purpose : FetchFor) (owner : Port) (s : State) (addr : Nat) : Fetched :=
  fetchFrom purpose owner s Config.maxJumps addr

/-- The address a continuing fetch starts at: the current descriptor address plus 8 (R25). -/
def Context.nextDesc (c : Context) : Nat :=
  match c.descAddr with
  | none => 0x8000
  | some a => a.toNat + 8

/-! ### Segments and lookahead (R31 to R35) -/

/-- A store or program fault found while data moves: the condition is gained and a halt request of cause STORE_FAULT set if
none is set (R109). -/
def dataFault (u : UnitAddr) (x : Cond) (s : State) : State :=
  s.modCtx u (fun c => (c.gain x).requestHalt .storeFault)

/-- A segment is to become current: its page is checked and its use count raised together, and the segment it replaces
ceases after (R31, R32). False when the page check fails. -/
def becomeCurrent (u : UnitAddr) (addr : Word) (count : Nat) (s : State) : State × Bool :=
  match (s.ctx u).owner with
  | none => (dataFault u .storeFault s, false)
  | some p =>
    if s.pageOpen p (pageOf addr) then
      (((s.raisePage (pageOf addr)).lowerSeg (s.ctx u).seg).modCtx u
        (fun c => { c with seg := some { addr := addr, remaining := count, page := pageOf addr } }), true)
    else (dataFault u .storeFault s, false)

/-- The lookahead trigger (R34). -/
def Context.wantsLookahead (c : Context) : Bool :=
  match c.desc, c.seg with
  | some d, some g =>
    d.kind = .input && d.link = .nextSegment && c.lookahead = .absent && c.halt = none
      && g.remaining ≤ Config.frameBytes
  | _, _ => false

/-- The trigger is tested, and the segment fetch made when it holds (R34, R35). -/
def testLookahead (u : UnitAddr) (s : State) : State :=
  if (s.ctx u).wantsLookahead then
    match (s.ctx u).owner with
    | none => s
    | some p =>
      let r := fetch (.segment .input) p s (s.ctx u).nextDesc
      match r.found with
      | some (d, a) => s.modCtx u (fun c => { c with lookahead := .present d a, jumps := r.jumps })
      | none => s.modCtx u (fun c => { c with lookahead := .faulted, jumps := r.jumps })
  else s

/-- The first segment of an IN or OUT order becomes current, and the trigger is tested (R31, R92). -/
def firstSegment (u : UnitAddr) (s : State) : State :=
  match (s.ctx u).desc with
  | none => s
  | some d =>
    if d.kind = .input ∨ d.kind = .output then testLookahead u (becomeCurrent u d.addr d.count.toNat s).1 else s

/-- The current descriptor with a SEG's link, flags, address and count; kind and order code are kept (R33). -/
def Descriptor.follow (cur seg : Descriptor) : Descriptor := { seg with kind := cur.kind, code := cur.code }

/-- A SEG found becomes current: the page check, then the descriptor, its address, and its MILESTONE (R31, R33). False when
the page check fails; the lookahead is absent after either (R35). -/
def switchTo (u : UnitAddr) (d : Descriptor) (a : Word) (s : State) : State × Bool :=
  let r := becomeCurrent u d.addr d.count.toNat s
  if r.2 then
    let s2 := r.1.modCtx u (fun c =>
      { c with desc := c.desc.map (fun cur => cur.follow d), descAddr := some a, lookahead := .absent })
    (if d.milestone then offerMilestone u a s2 else s2, true)
  else (r.1.modCtx u (fun c => { c with lookahead := .absent }), false)

/-! ### Input (R36 to R39) -/

/-- Bytes go to the current segment: written unless DISCARD is set, counted in either case (R36 step 1). -/
def placeSome (u : UnitAddr) (g : Segment) (bs : List Byte) (s : State) : State :=
  let discard := match (s.ctx u).desc with
    | some d => d.discard
    | none => false
  (if discard then s else s.writeBytes g.addr bs).modCtx u (fun c =>
    { c with seg := some { g with addr := g.addr + BitVec.ofNat 16 bs.length, remaining := g.remaining - bs.length } })

/-- The bytes left find no room and the current link is END or NEXT_ORDER: LENGTH unless LENGTH_OK (R37, R41). -/
def overrun (u : UnitAddr) (s : State) : State :=
  match (s.ctx u).desc with
  | none => s
  | some d => if d.lengthOk then s else s.modCtx u (fun c => c.gain .length)

/-- The bytes of a REQ IN_DATA frame are placed in order of arrival (R36 to R39); true when every byte was placed and no
halt request is set. The first argument bounds the segments one frame can reach. The requests to STR that one frame makes are
all taken in its own step, with no port command between them (the model's choice, log 29). -/
def placeFrame : Nat → UnitAddr → List Byte → State → State × Bool
  | 0, _, _, s => (s, false)
  | more + 1, u, bs, s =>
    match (s.ctx u).seg with
    | none => (s, false)
    | some g =>
      let s1 := testLookahead u (placeSome u g (bs.take g.remaining) s)
      let left := bs.drop g.remaining
      if left = [] then (s1, (s1.ctx u).halt = none)
      else if (s1.ctx u).halt ≠ none then (s1, false)
      else
        match (s1.ctx u).lookahead with
        | .present d a =>
          let r := switchTo u d a s1
          if r.2 then placeFrame more u left (testLookahead u r.1) else (r.1, false)
        | .faulted => (dataFault u .programFault s1, false)
        | .absent => (overrun u s1, false)

/-- What CTB gives LNK to answer a REQ of an order with (R95). -/
inductive OrderAnswer
  | ack
  | stp
  | dat (data : List Byte)
  | tak
  | wrongKind
  deriving DecidableEq, Repr

/-- The first data request of a SHORT-mode order makes its first segment current, unless a previous check for it has failed
(R31, R97 step 2). -/
def ensureSegment (u : UnitAddr) (s : State) : State :=
  if (s.ctx u).seg = none ∧ (s.ctx u).conds.storeFault = false then firstSegment u s else s

/-- CTB takes the bytes of a REQ IN_DATA for an IN order, its first segment ensured (R36 to R39, R95). -/
def takeInData (u : UnitAddr) (bs : List Byte) (s : State) : State × OrderAnswer :=
  let r := placeFrame (bs.length + 1) u bs s
  (r.1, if r.2 then .ack else .stp)

/-! ### Output (R40, R41) -/

/-- The DAT of a current segment: the smaller of 16 and the remaining count, read when the REQ is taken (R40). -/
def datOf (g : Segment) (s : State) : List Byte := s.readBytes g.addr (min Config.frameBytes g.remaining)

/-- The segment of an OUT order is exhausted and its link is NEXT_SEGMENT: the segment fetch, the switch, and the SEG's
first DAT, or STP (R41, R28). -/
def fetchOutput (u : UnitAddr) (s : State) : State × OrderAnswer :=
  match (s.ctx u).owner with
  | none => (s, .stp)
  | some p =>
    let r := fetch (.segment .output) p s (s.ctx u).nextDesc
    let s1 := s.modCtx u (fun c => { c with jumps := r.jumps })
    match r.found with
    | none => (dataFault u .programFault s1, .stp)
    | some (d, a) =>
      let r2 := switchTo u d a s1
      if r2.2 then
        match (r2.1.ctx u).seg with
        | none => (r2.1, .stp)
        | some g => (r2.1, .dat (datOf g r2.1))
      else (r2.1, .stp)

/-- CTB forms the answer to a REQ OUT_DATA of an OUT order, its first segment ensured (R40, R41, R95). -/
def takeOutData (u : UnitAddr) (s : State) : State × OrderAnswer :=
  match (s.ctx u).seg, (s.ctx u).desc with
  | some g, some d =>
    if (s.ctx u).halt ≠ none then (s, .stp)
    else if 0 < g.remaining then (s, .dat (datOf g s))
    else if d.link = .nextSegment then fetchOutput u s
    else (overrun u s, .stp)
  | _, _ => (s, .stp)

/-- The segment advances by a DAT's length when its ACK is taken (R40, R81). -/
def advanceSegment (u : UnitAddr) (n : Nat) (s : State) : State :=
  s.modCtx u (fun c => { c with seg := c.seg.map (fun g =>
    { g with addr := g.addr + BitVec.ofNat 16 n, remaining := g.remaining - n }) })

/-! ### The end of an order (R10, R42 to R45, R101) -/

/-- The residual of an order that ends without its ending status (R42, R111, log 11). -/
def Context.residual (c : Context) : Nat :=
  match c.seg with
  | some g => g.remaining
  | none => 0

/-- The residual of an order whose ending status is taken: with no current segment, the count of an IN or OUT's current
descriptor (R42). -/
def Context.endingResidual (c : Context) : Nat :=
  match c.seg, c.desc with
  | some g, _ => g.remaining
  | none, some d => if d.kind = .input ∨ d.kind = .output then d.count.toNat else 0
  | none, none => 0

/-- The COMPLETION record composed from a context (R101, R44). -/
def Context.compose (u : UnitAddr) (c : Context) (owner : Port) (residual : Nat) : Completion :=
  { unit := u, owner := owner, lastDesc := c.descAddr.getD 0, resume := c.descAddr.getD 0 + 8, residual := residual,
    conds := c.finalConds, status := c.unitStatus }

/-- A context leaves the select queue and the stop queue, from any position (R14, R15). -/
def leaveQueues (u : UnitAddr) (s : State) : State :=
  ((s.modSelectQ (without u)).modStopQ (without u)).modCtx u (fun c => { c with stopQueued := false })

/-- An order has ended with so much residual: its record is composed, its segment ceases, and the record is dropped, placed
or held (R10). -/
def endOrder (u : UnitAddr) (residual : Nat) (s : State) : State :=
  match (s.ctx u).owner with
  | none => goIdle u (leaveQueues u s)
  | some p =>
    let r := (s.ctx u).compose u p residual
    let s1 := ceaseSegment u ((leaveQueues u s).modCtx u (fun c => { c with conds := c.finalConds }))
    if (s.ctx u).discard then goIdle u s1 else offerCompletion p u r s1

/-- Whether a context holds an order in progress: it is neither IDLE nor HELD. LINK_RESET ends exactly these (R110). -/
def Context.inProgress (c : Context) : Bool :=
  c.state = .queued || c.state = .selecting || c.state = .connected || c.state = .disconnected

/-- An order ends without its ending status: a condition is gained, the unit status is absent, the residual is that of the
current segment (R102). -/
def failOrder (u : UnitAddr) (x : Cond) (s : State) : State :=
  if (s.ctx u).inProgress then
    endOrder u (s.ctx u).residual (s.modCtx u (fun c => ({ c with unitStatus := none }).gain x))
  else s

/-- The chain continues with the descriptor found: the segment ceases, the context takes the new order and joins the tail of
the select queue, and its MILESTONE is offered (R10, R33, R45 step 4). -/
def continueChain (u : UnitAddr) (d : Descriptor) (a : Word) (s : State) : State :=
  let s1 := (ceaseSegment u s).modCtx u (fun c =>
    { c with state := .queued, desc := some d, descAddr := some a, lookahead := .absent, unitStatus := none,
             silence := .stopped })
  let s2 := s1.modSelectQ (fun q => q ++ [u])
  if d.milestone then offerMilestone u a s2 else s2

/-- The first four chain conditions of R10: link NEXT_ORDER, conditions empty, status exactly DONE, no halt request. -/
def Context.mayChain (c : Context) : Bool :=
  match c.desc with
  | none => false
  | some d => d.link = .nextOrder && c.conds = {} && c.unitStatus = some doneOnly && c.halt = none

/-- The length check at ending status: LENGTH if the residual is not 0 and LENGTH_OK is not set (R43). -/
def Context.lengthCheck (c : Context) : Context :=
  match c.desc with
  | none => c
  | some d => if c.endingResidual ≠ 0 ∧ d.lengthOk = false then c.gain .length else c

/-- CTB takes the ending status of an order: status, residual and length check, then the chain or the end (R45, R100). The
RSP to a halt selection never chains (R6). -/
def takeEnding (u : UnitAddr) (st : UStatus) (chains : Bool) (s : State) : State :=
  let s1 := s.modCtx u (fun c => ({ c with unitStatus := some st }).lengthCheck)
  let c := s1.ctx u
  if chains && c.mayChain then
    match c.owner with
    | none => endOrder u c.endingResidual s1
    | some p =>
      let r := fetch .order p s1 c.nextDesc
      let s2 := s1.modCtx u (fun c => { c with jumps := r.jumps })
      match r.found with
      | some (d, a) => continueChain u d a s2
      | none => endOrder u c.endingResidual (s2.modCtx u (fun c => c.gain .programFault))
  else endOrder u c.endingResidual s1

/-- CTB takes a REQ of the unit of a CONNECTED context and forms the answer (R95); no other context is served (log 20). A data
REQ of any kind, even one that does not suit the order, first makes the first segment current (R31, R97 steps 2 and 3). -/
def serveReq (u : UnitAddr) (body : ReqBody) (s : State) : State × OrderAnswer :=
  if (s.ctx u).state ≠ .connected then (s, .wrongKind) else
  match (s.ctx u).desc, body with
  | some d, .inData bs =>
    if d.kind = .input then takeInData u bs (ensureSegment u s) else (ensureSegment u s, .wrongKind)
  | some d, .outData =>
    if d.kind = .output then takeOutData u (ensureSegment u s) else (ensureSegment u s, .wrongKind)
  | some _, .status st => (takeEnding u (statusOf st) true s, .tak)
  | none, _ => (s, .wrongKind)

/-! ### Selection outcomes, connections, the stop queue and the silence timer -/

/-- The silence timer as it is started on entry to DISCONNECTED: with the full limit, or not at all for a limit of 0 (R9). -/
def State.silenceStart (s : State) (u : UnitAddr) : Timer :=
  if s.silenceLimit u = 0 then .stopped else Timer.tens (s.silenceLimit u)

/-- A context joins the tail of the stop queue, unless it is on it (R15). -/
def joinStop (u : UnitAddr) (s : State) : State :=
  if (s.ctx u).stopQueued then s
  else (s.modStopQ (fun q => q ++ [u])).modCtx u (fun c => { c with stopQueued := true })

/-- A context enters DISCONNECTED: its silence timer starts, and it joins the stop queue if a halt request is set
(R8, R9, R15). -/
def enterDisconnected (u : UnitAddr) (s : State) : State :=
  let s1 := s.modCtx u (fun c => { c with state := .disconnected, silence := s.silenceStart u })
  if (s.ctx u).halt = none then s1 else joinStop u s1

/-- CTB takes an accepted RSP to an ordinary selection (R6, R92, R93). -/
def selectionAccepted (u : UnitAddr) (s : State) : State :=
  if (s.ctx u).state = .selecting then
    match s.mode u with
    | .long => firstSegment u (s.modCtx u (fun c => { c with state := .connected }))
    | .short => enterDisconnected u s
  else s

/-- CTB takes a refusing RSP to an ordinary selection (R94). -/
def selectionRefused (u : UnitAddr) (st : UStatus) (s : State) : State :=
  if (s.ctx u).state = .selecting then
    endOrder u 0 (s.modCtx u (fun c => ({ c with unitStatus := some st }).gain .refused))
  else s

/-- CTB takes the RSP to a halt selection as ending status (R6, R106). -/
def haltSelectionAnswered (u : UnitAddr) (st : UStatus) (s : State) : State :=
  if (s.ctx u).state = .selecting then takeEnding u st false s else s

/-- CTB takes a REQ after a POLL from the unit of a DISCONNECTED context: it enters CONNECTED, its silence timer stops, and
it leaves the stop queue (R8, R9, R15, R97 step 1). -/
def connect (u : UnitAddr) (s : State) : State :=
  (s.modStopQ (without u)).modCtx u (fun c =>
    { c with state := .connected, silence := .stopped, stopQueued := false })

/-- CTB takes the end of a SHORT-mode exchange that did not end the order (R7, R97 step 4). -/
def exchangeOver (u : UnitAddr) (s : State) : State :=
  if (s.ctx u).state = .connected then enterDisconnected u s else s

/-- The silence timer starts again at the end of a recall exchange, if the context is still DISCONNECTED (R108). -/
def recallOver (u : UnitAddr) (s : State) : State :=
  if (s.ctx u).state = .disconnected then s.modCtx u (fun c => { c with silence := s.silenceStart u }) else s

/-- A halt request is set on a context that has reached the link; a DISCONNECTED context joins the stop queue (R12, R15). -/
def haltOnLink (u : UnitAddr) (cause : HaltCause) (s : State) : State :=
  let s1 := s.modCtx u (fun c => c.requestHalt cause)
  if (s.ctx u).state = .disconnected then joinStop u s1 else s1

/-! ### Adoption (R144, R145) -/

/-- ADOPT by port `y` of one context of its peer (R144, R145). -/
def adoptContext (y : Port) (u : UnitAddr) (s : State) : State :=
  let take := fun (c : Context) => { c with owner := some y, adopted := true, discard := false }
  match (s.ctx u).state with
  | .idle => s
  | .queued => endOrder u 0 (s.modCtx u (fun c => { take c with unitStatus := none }))
  | .selecting => haltOnLink u .adopt (s.modCtx u take)
  | .connected => haltOnLink u .adopt (s.modCtx u take)
  | .disconnected => haltOnLink u .adopt (s.modCtx u take)
  | .held =>
    let s1 := (s.modCtx u (fun c => { c with owner := some y, adopted := true })).setHeldList y.peer
      (without u (s.heldList y.peer))
    match (s.ctx u).heldRecord with
    | none => goIdle u s1
    | some r =>
      let r1 : Completion := { r with owner := y, conds := r.conds.add .adopted }
      if s1.queueFull y then
        (s1.modCtx u (fun c => { c with heldRecord := some r1 })).setHeldList y (s1.heldList y ++ [u])
      else goIdle u (enqueue y (.completion r1) s1)

/-- One context is adopted and counted in the peer's adopted-away count (R143). -/
def adoptCounted (y : Port) (u : UnitAddr) (s : State) : State :=
  (adoptContext y u s).modPort y.peer (fun x => { x with adoptedAway := x.adoptedAway + 1 })

/-- The units whose contexts a port owns, in ascending order. -/
def State.ownedBy (s : State) (p : Port) : List UnitAddr := allUnits.filter (fun u => (s.ctx u).owner = some p)

/-! ### PORT_RESET and LINK_RESET on contexts (R22, R111) -/

/-- PORT_RESET of the owner acts on one context (R22, R148 step 1). The silence timer of a DISCONNECTED one goes on as it was (the
model's choice, log 35). -/
def portResetContext (u : UnitAddr) (s : State) : State :=
  let drop := fun (s : State) => haltOnLink u .portReset (s.modCtx u (fun c => { c with discard := true }))
  match (s.ctx u).state with
  | .idle => s
  | .queued => goIdle u (leaveQueues u s)
  | .held => goIdle u s
  | .selecting => drop s
  | .connected => drop s
  | .disconnected => drop s

/-- LINK_RESET ends one context's order, if one is in progress: LINK_RESET, no unit status, the residual of the current
segment (R111). -/
def linkResetContext (u : UnitAddr) (s : State) : State := failOrder u .linkReset s

end Sys2Proof.Machine
end

