-- ==== Sys2Proof/Machine/LinkOps.lean ====
section
/-! DEFINITION. The link engine's shared operations: opening and ending exchanges (R70 to R73), the answer memory (R83), the
STP that ends a failed order (R73, R84, R85), the arbiter (R88, R89), and what each received frame does (R64, R72 to R85). -/

namespace Sys2Proof.Machine

/-! ### Link states and exchanges -/

/-- The link goes to OPEN: no exchange in flight and no LONG connection (R70). -/
def toOpened (s : State) : State :=
  s.modLnk (fun l =>
    { l with link := .opened, exchange := none, conn := none, replyTimer := .stopped, gapTimer := .stopped })

/-- The link goes to HOLD and the gap timer starts (R79). -/
def toHold (s : State) : State :=
  s.modLnk (fun l =>
    { l with link := .hold, exchange := none, replyTimer := .stopped, gapTimer := .running Config.gapTimeout })

/-- The link is in EXCHANGE with this exchange, its frame being sent; both timers are stopped until the frame's end (R72). -/
def sendIn (e : Exchange) (s : State) : State :=
  s.modLnk (fun l =>
    { l with link := .exchange, exchange := some { e with sending := true }, replyTimer := .stopped,
             gapTimer := .stopped })

/-- A grant opens an exchange with its first frame, and the grant memory takes its kind (R71, R88). -/
def openGrant (g : GrantKind) (k : ExKind) (u : Option UnitAddr) (f : CtlFrame) (s : State) : State :=
  sendIn { kind := k, unit := u, frame := f, tries := 1, corrupt := false, opener := some g, sending := true, more := [] }
    (s.modLnk (fun l => { l with grantMem := some g }))

/-- An exchange ends without leaving the LONG connection, if one holds the link: to HOLD, else to OPEN, where CTB takes the
end of a SHORT-mode exchange and the end of a recall (R70, R79, R80, R97, R108). -/
def endExchange (e : Exchange) (s : State) : State :=
  match s.lnk.conn with
  | some _ => toHold s
  | none =>
    let s1 := toOpened s
    match e.unit with
    | none => s1
    | some u => if e.opener = some .recall then recallOver u s1 else exchangeOver u s1

/-! ### The answer memory and repeats (R83) -/

/-- The answer memory entry an answer to a REQ leaves: its kind and the frame for IN_DATA and STATUS, empty for OUT_DATA
(R83). -/
def answerTo (body : ReqBody) (f : CtlFrame) : Option Answer :=
  match body with
  | .inData _ => some { kind := .inData, frame := f }
  | .status _ => some { kind := .status, frame := f }
  | .outData => none

/-- A REQ with the repeat mark set whose kind the unit's entry holds: the frame to send again (R83). -/
def State.repeatAnswer (s : State) (u : UnitAddr) (mark : Bool) (body : ReqBody) : Option CtlFrame :=
  match s.answer u with
  | none => none
  | some x =>
    if mark then
      match x.kind, body with
      | .inData, .inData _ => some x.frame
      | .status, .status _ => some x.frame
      | .inData, .outData => none
      | .inData, .status _ => none
      | .status, .inData _ => none
      | .status, .outData => none
    else none

/-- The exchange kind of a REQ (R71). -/
def exKindOf : ReqBody → ExKind
  | .inData _ => .dataIn
  | .outData => .dataOut
  | .status _ => .status

/-! ### STP in the abandon form (R73, R83, R84, R85) -/

/-- The REQ a received frame is, when it is one from this unit. -/
def reqFrom (u : UnitAddr) : UnitFrame → Option ReqBody
  | .req v _ body => if v = u then some body else none
  | .rsp _ _ => none
  | .ack _ => none
  | .nak _ => none
  | .corrupt => none

/-- The answer memory entry STP in the abandon form leaves at a unit on a failure: that of the REQ that failed, or STATUS
for a failure not tied to a REQ of the unit (R83, log 9). -/
def abandonAnswer (u : UnitAddr) (body : Option ReqBody) : Option Answer :=
  match body with
  | none => some { kind := .status, frame := .stp .abandon u }
  | some b => answerTo b (.stp .abandon u)

/-- STP in the abandon form is sent once to a unit; a LONG connection, if any, ends (R73, R79, R84, log 7). -/
def sendAbandon (e : Exchange) (u : UnitAddr) (entry : Option Answer) (s : State) : State :=
  ((sendIn { e with frame := .stp .abandon u, more := [] } s).setAnswer u entry).modLnk (fun l => { l with conn := none })

/-- An exchange of an order fails: CTB takes the condition and ends the order, and the unit is sent STP in the abandon form
(R73, R74, R75, R79, R84). -/
def failExchange (e : Exchange) (u : UnitAddr) (x : Cond) (entry : Option Answer) (s : State) : State :=
  sendAbandon e u entry (failOrder u x s)

/-- A frame of the wrong kind or from the wrong address in a LONG connection or in reply to a DAT: PROTOCOL, and for a REQ
from an address without a directory entry in a LONG connection also the stray request's STP and notice, the notice offered
after the order's record (R79, R84, R85; logs 8, 22 and 30). In reply to a DAT of a SHORT-mode exchange such a REQ has neither (the
model's choice, log 33). -/
def wrongFrame (e : Exchange) (u : UnitAddr) (f : UnitFrame) (entry : Option Answer) (s : State) : State :=
  match f, s.lnk.conn with
  | .req v _ body, some _ =>
    if v ≠ u ∧ s.entry v = none then
      let s1 := offerStray v (failExchange e u .protocol entry s)
      (sendIn { e with frame := .stp .abandon v, more := [.stp .abandon u] } s1).setAnswer v
        (answerTo body (.stp .abandon v))
    else failExchange e u .protocol entry s
  | _, _ => failExchange e u .protocol entry s

/-! ### Serving a REQ (R80 to R83, R95) -/

/-- The exchange a good REQ from a unit opens or turns an exchange into (R71). -/
def reqExchange (u : UnitAddr) (body : ReqBody) (tries : Nat) (corrupt : Bool) (opener : Option GrantKind)
    (f : CtlFrame) : Exchange :=
  { kind := exKindOf body, unit := some u, frame := f, tries := tries, corrupt := corrupt, opener := opener,
    sending := true, more := [] }

/-- A REQ of a CONNECTED context is served: CTB forms the answer, LNK sends it and keeps the answer memory
(R80, R81, R82, R83, R84, R95). A DAT begins its own count of tries (R73); a corrupt frame that has come back in the exchange
stays noted (R70). After TAK of an ending status a LONG connection has ended (R82). -/
def serveOrder (u : UnitAddr) (body : ReqBody) (tries : Nat) (corrupt : Bool) (opener : Option GrantKind)
    (s : State) : State :=
  let r := serveReq u body s
  let e := reqExchange u body tries corrupt opener (.ack u)
  match r.2 with
  | .ack => (sendIn { e with frame := .ack u } r.1).setAnswer u (answerTo body (.ack u))
  | .stp => (sendIn { e with frame := .stp .report u } r.1).setAnswer u (answerTo body (.stp .report u))
  | .dat bs => sendIn { e with frame := .dat u bs, tries := 1 } r.1
  | .tak =>
    ((sendIn { e with frame := .tak u } r.1).setAnswer u (answerTo body (.tak u))).modLnk
      (fun l => { l with conn := none })
  | .wrongKind => failExchange e u .protocol (answerTo body (.stp .abandon u)) r.1

/-- A good REQ from the unit of a LONG connection: a repeat is answered again, any other is served (R79, R83, R96). -/
def longReq (u : UnitAddr) (mark : Bool) (body : ReqBody) (tries : Nat) (corrupt : Bool) (s : State) : State :=
  match s.repeatAnswer u mark body with
  | some f => sendIn (reqExchange u body tries corrupt none f) s
  | none => serveOrder u body tries corrupt none s

/-- RCM's answer to a REQ STATUS is sent and recorded; the poll or recall becomes the status exchange, with the tries used and
the note of a corrupt frame that it has (R70, R71, R82, R83). -/
def answerStatus (u : UnitAddr) (st : Byte) (tries : Nat) (corrupt : Bool) (opener : GrantKind) (r : State × Bool) : State :=
  let f : CtlFrame := if r.2 then .tak u else .dfr u
  (sendIn (reqExchange u (.status st) tries corrupt (some opener) f) r.1).setAnswer u (answerTo (.status st) f)

/-- A good REQ in reply to a POLL is dispatched (R77): a repeat; a stray; an order in progress; unsolicited status; a data
request without an order. -/
def polledReq (u : UnitAddr) (mark : Bool) (body : ReqBody) (s : State) : State :=
  match s.repeatAnswer u mark body with
  | some f => sendIn (reqExchange u body 1 false (some .poll) f) s
  | none =>
    let stp := reqExchange u body 1 false (some .poll) (.stp .abandon u)
    match s.entry u with
    | none => offerStray u ((sendIn stp s).setAnswer u (answerTo body (.stp .abandon u)))
    | some _ =>
      if (s.ctx u).state = .disconnected then serveOrder u body 1 false (some .poll) (connect u s)
      else
        match body with
        | .status st => answerStatus u st 1 false .poll (takeUnsolicited u (statusOf st) s)
        | .inData _ => (sendIn stp s).setAnswer u (answerTo body (.stp .abandon u))
        | .outData => (sendIn stp s).setAnswer u (answerTo body (.stp .abandon u))

/-! ### Failed tries (R73, R74) -/

/-- The next try of an exchange's frame (R73). -/
def tryAgain (e : Exchange) (s : State) : State := sendIn { e with tries := e.tries + 1 } s

/-- A recall fails: RCM takes it, and PROTOCOL ends the order of a DISCONNECTED context when the frame was of the wrong
kind (R78). The STRAY_UNIT notice is offered before the order's record (the model's choice, log 30). -/
def recallFailed (u : UnitAddr) (wrong : Bool) (s : State) : State :=
  let s1 := recallLost u s
  if wrong && (s1.ctx u).state = .disconnected then failOrder u .protocol s1 else s1

/-- An exchange one of whose tries has failed: a corrupt reply to the last try, too, stays noted (R70). -/
def Exchange.noting (e : Exchange) (corrupt : Bool) : Exchange := { e with corrupt := e.corrupt || corrupt }

/-- A failed try of an exchange, its corrupt replies noted: the frame is sent again or the exchange ends exhausted (R73, R74, R77,
R78). -/
def retryOrEnd (e : Exchange) (s : State) : State :=
  match e.kind, e.unit with
  | .selection, some u =>
    if e.tries < Config.maxTries then tryAgain e s
    else if e.corrupt then failExchange e u .linkFault (abandonAnswer u none) s
    else toOpened (failOrder u .noUnit s)
  | .haltSelection, some u =>
    if e.tries < Config.maxTries then tryAgain e s
    else if e.corrupt then failExchange e u .linkFault (abandonAnswer u none) s
    else toOpened (failOrder u .noUnit s)
  | .recall, some u =>
    if e.tries < Config.maxTries then tryAgain e s
    else recallOver u (toOpened (recallFailed u false s))
  | .dataOut, some u =>
    if e.tries < Config.maxTries then tryAgain e s
    else failExchange e u .linkFault none s
  | .request, some u =>
    if e.tries + 1 < Config.maxTries then tryAgain e s
    else failExchange { e with tries := e.tries + 1 } u .linkFault (abandonAnswer u none) s
  | .poll, _ => toOpened s
  | .dataIn, _ => s
  | .status, _ => s
  | _, none => toOpened s

/-- A try of an exchange has failed: no reply, a corrupt reply, or a NAK to a DAT (R73). -/
def failedTry (e : Exchange) (corrupt : Bool) (s : State) : State := retryOrEnd (e.noting corrupt) s

/-! ### Replies (R75 to R82) -/

/-- A reply to an ordinary selection (R75, R6). A stray REQ there has PROTOCOL only: no STP to the stray and no notice (the model's
choice, log 33); a REQ with the repeat mark there is a wrong frame like any other (the model's choice, log 31). -/
def selectionReply (e : Exchange) (u : UnitAddr) (f : UnitFrame) (s : State) : State :=
  match f with
  | .corrupt => failedTry e true s
  | .rsp v st =>
    if v = u then
      if st = 0 then
        match s.mode u with
        | .long => toHold ((selectionAccepted u s).modLnk (fun l => { l with conn := some u }))
        | .short => toOpened (selectionAccepted u s)
      else toOpened (selectionRefused u st s)
    else failExchange e u .protocol (abandonAnswer u (reqFrom u f)) s
  | .req _ _ _ => failExchange e u .protocol (abandonAnswer u (reqFrom u f)) s
  | .ack _ => failExchange e u .protocol (abandonAnswer u (reqFrom u f)) s
  | .nak _ => failExchange e u .protocol (abandonAnswer u (reqFrom u f)) s

/-- A reply to a halt selection (R76, R6). A stray REQ there has PROTOCOL only: no STP to the stray and no notice (the model's
choice, log 33); a REQ with the repeat mark there is a wrong frame like any other (the model's choice, log 31). -/
def haltSelectionReply (e : Exchange) (u : UnitAddr) (f : UnitFrame) (s : State) : State :=
  match f with
  | .corrupt => failedTry e true s
  | .rsp v st =>
    if v = u then toOpened (haltSelectionAnswered u st s)
    else failExchange e u .protocol (abandonAnswer u (reqFrom u f)) s
  | .req _ _ _ => failExchange e u .protocol (abandonAnswer u (reqFrom u f)) s
  | .ack _ => failExchange e u .protocol (abandonAnswer u (reqFrom u f)) s
  | .nak _ => failExchange e u .protocol (abandonAnswer u (reqFrom u f)) s

/-- A reply to a POLL: only a good REQ has an effect (R77). -/
def pollReply (f : UnitFrame) (s : State) : State :=
  match f with
  | .req u mark body => polledReq u mark body s
  | .rsp _ _ => toOpened s
  | .ack _ => toOpened s
  | .nak _ => toOpened s
  | .corrupt => toOpened s

/-- A frame of the wrong kind or address in reply to RCL: STP in the abandon form, and the recall fails (R78). A stray REQ there is
sent no STP of its own, and the notice names the recalled unit alone (the model's choice, log 33); a REQ with the repeat mark from
another address is a wrong frame, whether or not its unit's answer memory could answer it (the model's choice, log 31). -/
def recallWrong (e : Exchange) (u : UnitAddr) (f : UnitFrame) (s : State) : State :=
  sendAbandon e u (abandonAnswer u (reqFrom u f)) (recallFailed u true s)

/-- A reply to RCL (R78). -/
def recallReply (e : Exchange) (u : UnitAddr) (f : UnitFrame) (s : State) : State :=
  match f with
  | .corrupt => failedTry e true s
  | .req v mark (.status st) =>
    if v = u then
      match s.repeatAnswer u mark (.status st) with
      | some g => sendIn (reqExchange u (.status st) e.tries e.corrupt e.opener g) s
      | none => answerStatus u st e.tries e.corrupt .recall (takeDeferred u (statusOf st) s)
    else recallWrong e u f s
  | .req _ _ _ => recallWrong e u f s
  | .rsp _ _ => recallWrong e u f s
  | .ack _ => recallWrong e u f s
  | .nak _ => recallWrong e u f s

/-- The bytes of the DAT an exchange sent. -/
def Exchange.datLength (e : Exchange) : Nat :=
  match e.frame with
  | .dat _ bs => bs.length
  | _ => 0

/-- A reply to a DAT (R81): ACK advances the segment and ends the exchange, NAK and corrupt are failed tries, any other frame
is PROTOCOL, a REQ with the repeat mark too, from the unit itself or from another address, whether or not the answer memory could
answer it (the model's choice, log 31). The answer memory of the unit is empty after (R83, log 9). -/
def datReply (e : Exchange) (u : UnitAddr) (f : UnitFrame) (s : State) : State :=
  match f with
  | .corrupt => failedTry e true s
  | .ack v =>
    if v = u then endExchange e ((advanceSegment u e.datLength s).setAnswer u none)
    else wrongFrame e u f none s
  | .nak v => if v = u then failedTry e false s else wrongFrame e u f none s
  | .rsp _ _ => wrongFrame e u f none s
  | .req _ _ _ => wrongFrame e u f none s

/-- An exchange of a LONG connection whose REQ is not known (R74). -/
def requestExchange (u : UnitAddr) (f : CtlFrame) (tries : Nat) (corrupt : Bool) : Exchange :=
  { kind := .request, unit := some u, frame := f, tries := tries, corrupt := corrupt, opener := none, sending := true,
    more := [] }

/-- A frame received in a LONG connection while a REQ is awaited, so many receptions having failed (R74, R79). A REQ from another
address is of the wrong address, whether or not it is a repeat that the answer memory of its unit could answer (the model's
choice, log 31). -/
def longFrame (u : UnitAddr) (failed : Nat) (corrupt : Bool) (f : UnitFrame) (s : State) : State :=
  let e := requestExchange u (.nak u) (failed + 1) corrupt
  match f with
  | .corrupt =>
    if failed + 1 < Config.maxTries then (sendIn { e with corrupt := true } s).setAnswer u none
    else failExchange { e with corrupt := true } u .linkFault (abandonAnswer u none) s
  | .req v mark body =>
    if v = u then longReq u mark body (failed + 1) corrupt s
    else wrongFrame e u f (abandonAnswer u none) s
  | .rsp _ _ => wrongFrame e u f (abandonAnswer u none) s
  | .ack _ => wrongFrame e u f (abandonAnswer u none) s
  | .nak _ => wrongFrame e u f (abandonAnswer u none) s

/-- A frame LNK waited for is taken, by the link state and the exchange in flight (R64, R72 to R82). -/
def awaitedFrame (f : UnitFrame) (s : State) : State :=
  match s.lnk.link, s.lnk.exchange, s.lnk.conn with
  | .hold, _, some u => longFrame u 0 false f s
  | .exchange, some e, _ =>
    match e.kind, e.unit with
    | .selection, some u => selectionReply e u f s
    | .haltSelection, some u => haltSelectionReply e u f s
    | .poll, _ => pollReply f s
    | .recall, some u => recallReply e u f s
    | .dataOut, some u => datReply e u f s
    | .request, some u => longFrame u e.tries e.corrupt f s
    | _, _ => s
  | _, _, _ => s

/-- LNK waits for a frame: it is receiving one whose start it took, or a timer of R72 or R79 runs and no frame is being
received (R64, log 5). -/
def State.awaits (s : State) : Bool :=
  match s.lnk.reception with
  | .awaited => true
  | .ignored => false
  | .none => s.lnk.replyTimer.runs || s.lnk.gapTimer.runs

/-- The end of a received frame: a frame LNK waited for is taken, any other is ignored (R64). -/
def receiveFrame (f : UnitFrame) (s : State) : State :=
  if s.awaits then
    awaitedFrame f (s.modLnk (fun l =>
      { l with reception := .none, replyTimer := .stopped, gapTimer := .stopped }))
  else s.modLnk (fun l => { l with reception := .none })

/-- The end of a received frame with an address byte; an address above 31 makes it corrupt (R64, R186). -/
def receiveFrom (addr : Byte) (f : UnitAddr → UnitFrame) (s : State) : State :=
  match unitOf addr with
  | none => receiveFrame .corrupt s
  | some u => receiveFrame (f u) s

/-- The end of a received REQ; an IN_DATA payload that is not 1 to 16 bytes makes it corrupt (R64). -/
def receiveReq (addr : Byte) (mark : Bool) (body : ReqBody) (s : State) : State :=
  match body with
  | .inData bs =>
    if 1 ≤ bs.length ∧ bs.length ≤ Config.frameBytes then receiveFrom addr (fun u => .req u mark body) s
    else receiveFrame .corrupt s
  | .outData => receiveFrom addr (fun u => .req u mark body) s
  | .status _ => receiveFrom addr (fun u => .req u mark body) s

/-! ### The arbiter (R88, R89) -/

/-- A poll is eligible (R89 row 3). -/
def State.pollEligible (s : State) : Bool :=
  s.lnk.srqSampled && !(s.lnk.grantMem = some .poll && !s.ctb.selectQ.isEmpty)

/-- The grant LNK would make: in OPEN only, the first eligible kind of R89. -/
def State.nextGrant (s : State) : Option GrantKind :=
  if s.lnk.link ≠ .opened then none
  else if !s.ctb.stopQ.isEmpty then some .haltSelection
  else if s.recallOwed.isSome then some .recall
  else if s.pollEligible then some .poll
  else if !s.ctb.selectQ.isEmpty then some .selection
  else none

/-- The direction a selection carries (R65). -/
def directionOf (c : Context) : Direction :=
  match c.desc with
  | none => .none
  | some d =>
    match d.kind with
    | .input => .input
    | .output => .output
    | .ctrl => .none
    | .seg => .none
    | .jump => .none

/-- The order code a selection carries (R75). -/
def codeOf (c : Context) : Byte :=
  match c.desc with
  | none => 0
  | some d => d.code

/-- A context leaves its queue and enters SELECTING; its silence timer stops (R6, R91). -/
def enterSelecting (u : UnitAddr) (s : State) : State :=
  s.modCtx u (fun c => { c with state := .selecting, silence := .stopped, stopQueued := false })

/-! ### The link-reset condition (R86) -/

/-- The link-reset condition begins: exchange, timers, LONG connection and answer memory are given up, and BREAK starts
(R86, R88). -/
def beginLinkReset (s : State) : State :=
  s.modLnk (fun l =>
    { l with link := .inBreak, exchange := none, conn := none, replyTimer := .stopped, gapTimer := .stopped,
             linkTimer := .running Config.breakTime, reception := .none, grantMem := none,
             answers := Vector.replicate 32 none })

end Sys2Proof.Machine
end

