-- ==== Sys2Proof/Machine/LinkEvents.lean ====
section
/-! DEFINITION. The events of the unit link: SRQ, grants, the ends and starts of frames, LNK's timers, the silence timers, and
the frames of units (R64, R68, R72 to R91, R108). -/

namespace Sys2Proof.Machine

/-- SRQ_CHANGE: the sampled level follows the line, but not in BREAK and SETTLE (R68, R86). -/
def execSrqChange (asserted : Bool) (s : State) : Host.Outcome State Fault Refusal :=
  .next (s.modLnk (fun l =>
    { l with srqLine := asserted,
             srqSampled := if l.link = .inBreak ∨ l.link = .settle then l.srqSampled else asserted }))

/-- HALT_SELECTION_GRANT: taken when it is the grant LNK would make (R76, R89, R91). -/
def execHaltSelectionGrant (s : State) : Host.Outcome State Fault Refusal :=
  match s.nextGrant, s.ctb.stopQ with
  | some .haltSelection, u :: rest =>
    .next (openGrant .haltSelection .haltSelection (some u) (.sel u 0xFF .short .none)
      ((enterSelecting u (s.modStopQ (fun _ => rest))).setAnswer u none))
  | _, _ => .next s

/-- RECALL_GRANT: taken when it is the grant LNK would make; the silence timer of a DISCONNECTED context stops (R78, R89, R91,
R108). -/
def execRecallGrant (s : State) : Host.Outcome State Fault Refusal :=
  match s.nextGrant, s.recallOwed with
  | some .recall, some u =>
    .next (openGrant .recall .recall (some u) (.rcl u)
      ((if (s.ctx u).state = .disconnected then s.modCtx u (fun c => { c with silence := .stopped }) else s).setAnswer
        u none))
  | _, _ => .next s

/-- POLL_GRANT: taken when it is the grant LNK would make (R77, R89, R91). -/
def execPollGrant (s : State) : Host.Outcome State Fault Refusal :=
  if s.nextGrant = some .poll then .next (openGrant .poll .poll none .poll s) else .next s

/-- SELECTION_GRANT: taken when it is the grant LNK would make (R75, R89, R91). -/
def execSelectionGrant (s : State) : Host.Outcome State Fault Refusal :=
  match s.nextGrant, s.ctb.selectQ with
  | some .selection, u :: rest =>
    .next (openGrant .selection .selection (some u)
      (.sel u (codeOf (s.ctx u)) (s.mode u) (directionOf (s.ctx u)))
      ((enterSelecting u (s.modSelectQ (fun _ => rest))).setAnswer u none))
  | _, _ => .next s

/-- FRAME_SENT: the next frame of the exchange begins, or the reply timer starts, or the exchange ends (R71, R72, R79). LNK
sends nothing while a frame is being received, so its frame's end is not taken before that frame's end (R72, log 28). -/
def execFrameSent (s : State) : Host.Outcome State Fault Refusal :=
  match s.lnk.link, s.lnk.exchange with
  | .exchange, some e =>
    if e.sending ∧ s.lnk.reception = .none then
      match e.more with
      | f :: fs => .next (s.modLnk (fun l => { l with exchange := some { e with frame := f, more := fs } }))
      | [] =>
        if e.frame.callsForReply then
          .next (s.modLnk (fun l =>
            { l with exchange := some { e with sending := false }, replyTimer := .running Config.replyTimeout }))
        else .next (endExchange e s)
    else .next s
  | _, _ => .next s

/-- FRAME_START: a frame whose start is taken while the reply or gap timer runs stops the timer and is awaited; any other is
ignored (R64, R72, R79). While a reset is in progress the link is disregarded (R187). -/
def execFrameStart (s : State) : Host.Outcome State Fault Refusal :=
  if s.dsc.phase ≠ .none then .next s
  else if s.lnk.replyTimer.runs || s.lnk.gapTimer.runs then
    .next (s.modLnk (fun l => { l with reception := .awaited, replyTimer := .stopped, gapTimer := .stopped }))
  else if s.lnk.reception = .awaited then .next s
  else .next (s.modLnk (fun l => { l with reception := .ignored }))

/-- REPLY_TIMER_EXPIRY: the try has had no reply (R72, R73, R74). -/
def execReplyTimerExpiry (s : State) : Host.Outcome State Fault Refusal :=
  match s.lnk.replyTimer.runs, s.lnk.exchange with
  | true, some e => .next (failedTry e false (s.modLnk (fun l => { l with replyTimer := .stopped })))
  | _, _ => .next s

/-- GAP_TIMER_EXPIRY: LINK_FAULT, STP in the abandon form, and the LONG connection ends (R79). -/
def execGapTimerExpiry (s : State) : Host.Outcome State Fault Refusal :=
  match s.lnk.gapTimer.runs, s.lnk.conn with
  | true, some u =>
    .next (failExchange (requestExchange u (.stp .abandon u) 1 false) u .linkFault (abandonAnswer u none) s)
  | _, _ => .next s

/-- SILENCE_TIMER_EXPIRY: a running timer of a DISCONNECTED context stops; the halt request is set with cause TIMEOUT, if none
is set, and the context is on the stop queue (R9, R108, log 1). -/
def execSilenceTimerExpiry (u : UnitAddr) (s : State) : Host.Outcome State Fault Refusal :=
  if (s.ctx u).silence.runs ∧ (s.ctx u).state = .disconnected then
    .next (haltOnLink u .timeout (s.modCtx u (fun c => { c with silence := .stopped })))
  else .next s

/-- RSP (R75, R76). -/
def execRsp (addr status : Byte) (s : State) : Host.Outcome State Fault Refusal :=
  .next (receiveFrom addr (fun u => .rsp u (statusOf status)) s)

/-- REQ_IN_DATA (R80). -/
def execReqInData (addr : Byte) (mark : Bool) (data : List Byte) (s : State) : Host.Outcome State Fault Refusal :=
  .next (receiveReq addr mark (.inData data) s)

/-- REQ_OUT_DATA (R81). -/
def execReqOutData (addr : Byte) (mark : Bool) (s : State) : Host.Outcome State Fault Refusal :=
  .next (receiveReq addr mark .outData s)

/-- REQ_STATUS (R82). -/
def execReqStatus (addr : Byte) (mark : Bool) (status : Byte) (s : State) : Host.Outcome State Fault Refusal :=
  .next (receiveReq addr mark (.status status) s)

/-- REQ_REPEAT: a REQ of any kind with the repeat mark set (R83). -/
def execReqRepeat (addr : Byte) (body : ReqBody) (s : State) : Host.Outcome State Fault Refusal :=
  .next (receiveReq addr true body s)

/-- ACK from a unit (R81). -/
def execAck (addr : Byte) (s : State) : Host.Outcome State Fault Refusal := .next (receiveFrom addr .ack s)

/-- NAK from a unit (R73). -/
def execNak (addr : Byte) (s : State) : Host.Outcome State Fault Refusal := .next (receiveFrom addr .nak s)

/-- CORRUPT_FRAME (R64, R73, R74, R77). -/
def execCorruptFrame (s : State) : Host.Outcome State Fault Refusal := .next (receiveFrame .corrupt s)

end Sys2Proof.Machine
end

