-- ==== Sys2Proof/Machine/ResetOps.lean ====
section
/-! DEFINITION. Part-level resets and start-up (R150 to R157, R181, R187), the lease (R136, R137) and the directory becoming
active (R157, R161). -/

namespace Sys2Proof.Machine

/-! ### Part-level resets (R153) -/

/-- A port interface at a part-level reset: everything at its reset value but the lapse count, which power-on alone clears,
and the chip select level (R135, R141, R181, log 14). -/
def PortIf.atReset (x : PortIf) (cause : ResetCause) : PortIf :=
  { PortIf.reset with lapseCount := if cause = .powerOn then 0 else x.lapseCount, chipSelect := x.chipSelect }

/-- Every block takes its reset values (R153): the store is cleared by power-on alone (R46), the straps are kept (R152), the
line levels stay as the pins are (log 15). -/
def resetBlocks (cause : ResetCause) (s : State) : State :=
  { s with
    ports := { a := s.ports.a.atReset cause, b := s.ports.b.atReset cause }
    ctb := Ctb.reset
    lnk := { Lnk.reset with srqLine := s.lnk.srqLine }
    rcm := Rcm.reset
    str := { store := if cause = .powerOn then [] else s.str.store, pages := pagesReset }
    dsc := { s.dsc with part := .loading, active := none, staging := Vector.replicate 32 none, cause := cause,
                        load := .none, agreed := none } }

/-- A receiver as a reset ends: UNSELECTED, or IGNORING when chip select is asserted (R181). -/
def PortIf.atResetEnd (x : PortIf) : PortIf :=
  { x with receiver := { Receiver.unselected with state := if x.chipSelect then .ignoring else .unselected } }

/-- A reset has ended: start-up begins with the link-reset condition (R153, R154). -/
def startUp (s : State) : State :=
  beginLinkReset
    { s with ports := { a := s.ports.a.atResetEnd, b := s.ports.b.atResetEnd }, dsc := { s.dsc with phase := .none } }

/-- The straps are captured and start-up begins (R152, R153). -/
def captureAndStart (x : Straps) (s : State) : State := startUp (s.modDsc (fun d => { d with straps := x }))

/-- The agreed part reset is taken: the straps are kept, the cause is PART, start-up begins at once (R166, R153). -/
def takeAgreedReset (s : State) : State := startUp (resetBlocks .part s)

/-! ### The lease (R136, R137) -/

/-- A port's lease timer is restarted with its lease period if the port is ACTIVE; that of a LAPSED port stays stopped
(R136, R137). -/
def PortIf.restartLease (x : PortIf) : PortIf :=
  if x.state = .active then { x with lease := Timer.tens x.leasePeriod } else x

/-- Both ports' lease timers start or restart (R136, R137). -/
def restartLeases (s : State) : State :=
  { s with ports := { a := s.ports.a.restartLease, b := s.ports.b.restartLease } }

/-- Both ports' lease periods take a value in 10 ms units (R136). -/
def setLeasePeriods (n : Byte) (s : State) : State :=
  { s with ports := { a := { s.ports.a with leasePeriod := n }, b := { s.ports.b with leasePeriod := n } } }

/-- A directory becomes active: the lease periods take its value, the part is READY, the leases restart and CONFIG_READY is
offered to both queues (R157, R161, R136). -/
def activate (d : Directory) (s : State) : State :=
  offerBoth .configReady none
    (restartLeases (setLeasePeriods d.lease (s.modDsc (fun x => { x with active := some d, part := .ready }))))

/-- Start-up has ended: the part state is UNCONFIGURED or READY (R150, R137). -/
def State.started (s : State) : Bool := s.dsc.part ≠ .loading

/-! ### Start-up (R154, R157) -/

/-- DSC takes the end of the start-up settle time (R154). -/
def settleStartUp (s : State) : State :=
  match s.dsc.straps.cfgSrc with
  | .portLoad => restartLeases (s.modDsc (fun d => { d with part := .unconfigured }))
  | .memory => s.modDsc (fun d => { d with load := .first })

/-- The staging directory of a list of entries: entries 0 to n - 1 written, the rest as they were (R157). -/
def writeStaging (es : List DirEntry) (v : Vector (Option DirEntry) 32) : Vector (Option DirEntry) 32 :=
  (es.zipIdx).foldl (fun v x => v.setIfInBounds x.2 (some x.1)) v

/-- A load succeeds (R157). -/
def loadSucceeds (d : Directory) (s : State) : State :=
  activate d (s.modDsc (fun x => { x with load := .loaded, staging := writeStaging d.entries x.staging }))

/-- A load fails (R157). -/
def loadFails (s : State) : State :=
  offerBoth .configFailed none (restartLeases (s.modDsc (fun x => { x with load := .failed, part := .unconfigured })))

end Sys2Proof.Machine
end

