-- ==== Sys2Proof/Machine/PortOps.lean ====
section
/-! DEFINITION. What every port frame does (R168 to R175): the frame receiver, the lease restart and resumption of a good frame
(R137, R140), the acceptance by part state (R175), and the response. -/

namespace Sys2Proof.Machine

/-- The receiver of port `p` changed by `f` (R170). -/
def State.modReceiver (s : State) (p : Port) (f : Receiver → Receiver) : State :=
  s.modPort p (fun x => { x with receiver := f x.receiver })

/-- The byte the controller sends on port `p` in the next eight clocks; none when its output is not driven (R168, R187). -/
def State.output (s : State) (p : Port) : Option Byte :=
  let x := s.port p
  if s.dsc.phase ≠ .none ∨ x.chipSelect = false then none
  else
    match x.receiver.state, x.receiver.response with
    | .responding, some r => some (r.wire.getD (x.receiver.count - (x.receiver.bytes.length + 2)) 0xFF)
    | _, _ => some 0xFF

/-- The good frame on a LAPSED port resumes it (R140). -/
def resume (p : Port) (s : State) : State :=
  let s1 := s.modPort p (fun x => { x with state := .active, lease := Timer.tens x.leasePeriod })
  offerNotice p .adoptedAway (some (s1.port p).adoptedAway) (offerNotice p.peer .peerResumed none s1)

/-- Step 2 of R173: a good frame restarts the lease once start-up has ended, and resumes a LAPSED port (R137, R140). -/
def goodFrame (p : Port) (s : State) : State :=
  if (s.port p).state = .lapsed then resume p s
  else if s.started then s.modPort p PortIf.restartLease
  else s

/-- A whole frame has been taken: the receiver is in TURNAROUND with the frame's bytes (R170). -/
def frameTaken (p : Port) (frame : List Byte) (s : State) : State :=
  s.modReceiver p (fun _ => { state := .turnaround, bytes := frame, count := frame.length, response := none })

/-- The response of port `p` is formed (R170). -/
def respond (p : Port) (r : Response) (s : State) : State :=
  s.modReceiver p (fun x => { x with response := some r })

/-- The receiver of port `p` discards what it holds and takes no frame (R170, R181). -/
def ignoreFrames (p : Port) (s : State) : State :=
  s.modReceiver p (fun _ => { Receiver.unselected with state := .ignoring })

/-- The frame in reception on port `p` can be the one given: no reset is in progress, the receiver is RECEIVING, and the
bytes taken so far begin the frame, short of its last byte (R170, log 4). -/
def State.canTake (s : State) (p : Port) (frame : List Byte) : Bool :=
  s.dsc.phase = .none && (s.port p).receiver.state = .receiving && (s.port p).receiver.bytes.isPrefixOf frame
    && (s.port p).receiver.bytes.length < frame.length

/-- The rest of a frame is taken on port `p` and answered by `f`; after a part reset has been agreed it is discarded
unanswered instead, and so is one that ends with an argument length above 70 (R166, R172 to R174, log 13). -/
def takeFrame (p : Port) (frame : List Byte) (f : State → State × Response) (s : State) : State :=
  if s.canTake p frame then
    if s.dsc.agreed = none then
      let r := f (frameTaken p frame s)
      respond p r.2 r.1
    else ignoreFrames p s
  else s

/-- A good command frame is taken on port `p`: lease and resumption, then the command (R173). -/
def takeCommand (p : Port) (code : Byte) (args : List Byte) (f : State → State × Response) (s : State) : State :=
  takeFrame p (commandFrame code args) (fun x => f (goodFrame p x)) s

/-- Step 5 of R173: the command runs only in READY, else NOT_READY (R175). -/
def inReady (f : State → State × Response) (s : State) : State × Response :=
  if s.dsc.part = .ready then f s else (s, .bare .notReady)

/-- Step 5 of R173: the command runs in UNCONFIGURED and READY, else NOT_READY (R175). -/
def inStarted (f : State → State × Response) (s : State) : State × Response :=
  if s.started then f s else (s, .bare .notReady)

/-- The unit a byte names is passed on, else BAD_ARG (R16, R18, R19). -/
def withUnit (x : Byte) (f : UnitAddr → State → State × Response) (s : State) : State × Response :=
  match unitOf x with
  | none => (s, .bare .badArg)
  | some u => f u s

/-- A refusal that names one page or staging index (R176). -/
def Response.naming (c : Result) (n : Nat) : Response := { code := c, data := [BitVec.ofNat 8 n] }

end Sys2Proof.Machine
end

