-- ==== Sys2Proof/Machine/DirectoryCommands.lean ====
section
/-! DEFINITION. The port commands that DSC owns: LOAD_DIRECTORY, COMMIT_DIRECTORY, READ_DIRECTORY and PART_RESET (R160, R161,
R163, R165, R166). -/

namespace Sys2Proof.Machine

/-- A staging entry is written (R160). -/
def stageEntry (i : UnitAddr) (e : DirEntry) (s : State) : State :=
  s.modDsc (fun d => { d with staging := d.staging.set i.val (some e) })

/-- LOAD_DIRECTORY (R160): an index above 31 is as bad an argument as a unit above 31. -/
def doLoadDirectory (index unit mode home silence : Byte) : State → State × Response :=
  inStarted (withUnit index (fun i s =>
    match dirEntryOf unit mode home silence with
    | none => (s, .bare .badArg)
    | some e => (stageEntry i e s, .bare .ok)))

/-- LOAD_DIRECTORY: the command frame and its effect. -/
def execLoadDirectory (p : Port) (index unit mode home silence : Byte) (s : State) :
    Host.Outcome State Fault Refusal :=
  .next (takeCommand p 0x13 [index, unit, mode, home, silence] (doLoadDirectory index unit mode home silence) s)

/-- The lowest index of a staged run that is empty, or whose unit address equals that of a lower index (R161 check 4). -/
def stagingFault : List (Option DirEntry) → Nat → List UnitAddr → Option Nat
  | [], _, _ => none
  | none :: _, i, _ => some i
  | some e :: rest, i, seen => if e.unit ∈ seen then some i else stagingFault rest (i + 1) (e.unit :: seen)

/-- The staging entries 0 to count - 1 (R161). -/
def State.staged (s : State) (count : Nat) : List (Option DirEntry) := s.dsc.staging.toList.take count

/-- Every context is IDLE and the deferred list is empty (R161 check 3). -/
def State.quiet (s : State) : Bool :=
  allUnits.all (fun u => (s.ctx u).state = .idle) && s.rcm.deferred.isEmpty

/-- The checks of COMMIT_DIRECTORY after the part state, in order, and its steps (R161). -/
def commit (count lease : Byte) (s : State) : State × Response :=
  if 32 < count.toNat ∨ lease = 0 then (s, .bare .badArg)
  else if s.quiet = false then (s, .bare .busy)
  else
    match stagingFault (s.staged count.toNat) 0 [] with
    | some i => (s, .naming .badArg i)
    | none => (activate { entries := (s.staged count.toNat).filterMap id, lease := lease } s, .bare .ok)

/-- COMMIT_DIRECTORY (R161). -/
def doCommitDirectory (count lease : Byte) : State → State × Response := inStarted (commit count lease)

/-- COMMIT_DIRECTORY: the command frame and its effect. -/
def execCommitDirectory (p : Port) (count lease : Byte) (s : State) : Host.Outcome State Fault Refusal :=
  .next (takeCommand p 0x14 [count, lease] (doCommitDirectory count lease) s)

/-- The response of READ_DIRECTORY at an index 0 to 31 (R163). -/
def directoryResponse (i : UnitAddr) (s : State) : Response :=
  match s.dsc.active with
  | none => .bare .noEntry
  | some d =>
    match d.entries[i.val]? with
    | none => .bare .noEntry
    | some e => { code := .ok, data := BitVec.ofNat 8 d.entries.length :: d.lease :: e.bytes }

/-- READ_DIRECTORY (R163). -/
def doReadDirectory (index : Byte) : State → State × Response :=
  inStarted (withUnit index (fun i s => (s, directoryResponse i s)))

/-- READ_DIRECTORY: the command frame and its effect. -/
def execReadDirectory (p : Port) (index : Byte) (s : State) : Host.Outcome State Fault Refusal :=
  .next (takeCommand p 0x15 [index] (doReadDirectory index) s)

/-- Whether a stamp is set (R164). -/
def Stamp.isSet : Stamp → Bool
  | .void => false
  | .set _ => true

/-- A set stamp with its expiry timer stopped (R166). -/
def Stamp.stopTimer : Stamp → Stamp
  | .void => .void
  | .set _ => .set .stopped

/-- The lease and stamp timers of a port stop for the agreement window (R166). -/
def PortIf.stopTimers (x : PortIf) : PortIf := { x with lease := .stopped, stamp := x.stamp.stopTimer }

/-- A part reset is agreed: the peer's receiver takes no more frames, the lease and stamp timers of both ports stop, and the
reset waits for the OK response (R166, R170). -/
def agreeReset (p : Port) (s : State) : State :=
  ignoreFrames p.peer (((s.modPort p PortIf.stopTimers).modPort p.peer PortIf.stopTimers).modDsc
    (fun d => { d with agreed := some p }))

/-- The decision of PART_RESET (R165). -/
def doPartReset (p : Port) : State → State × Response :=
  inStarted (fun s =>
    if (s.port p.peer).state = .lapsed ∨ (s.port p.peer).stamp.isSet then (agreeReset p s, .bare .ok)
    else (s.modPort p (fun x => { x with stamp := .set (Timer.tens x.leasePeriod) }), .bare .pending))

/-- PART_RESET: the command frame and its effect. -/
def execPartReset (p : Port) (s : State) : Host.Outcome State Fault Refusal :=
  .next (takeCommand p 0x12 [] (doPartReset p) s)

end Sys2Proof.Machine
end

