-- ==== Sys2Proof/Machine/OrderCommands.lean ====
section
/-! DEFINITION. The port commands that CTB owns: START, HALT, QUERY_UNIT, ADOPT and LINK_RESET (R16 to R19, R143, R110). -/

namespace Sys2Proof.Machine

/-- START is accepted with the descriptor found: the context is QUEUED with the issuing port as owner, and the MILESTONE, if
the descriptor carries one, is offered (R17). -/
def acceptStart (p : Port) (u : UnitAddr) (d : Descriptor) (a : Word) (jumps : Nat) (s : State) : State :=
  let s1 := (ceaseSegment u s).modCtx u (fun _ =>
    { state := .queued, owner := some p, desc := some d, descAddr := some a, jumps := jumps })
  let s2 := s1.modSelectQ (fun q => q ++ [u])
  if d.milestone then offerMilestone u a s2 else s2

/-- The checks of START after the unit's range, in order (R16). -/
def startUnit (p : Port) (addr : Word) (u : UnitAddr) (s : State) : State × Response :=
  if s.entry u = none then (s, .bare .noEntry)
  else if (s.ctx u).state ≠ .idle then (s, .bare .busy)
  else if descriptorAddr addr.toNat = false then (s, .bare .badArg)
  else if s.pageOpen p (pageOf addr) = false then (s, .bare .pageFault)
  else
    let r := fetch .order p s addr.toNat
    match r.found with
    | none => (s, .bare .programFault)
    | some (d, a) => (acceptStart p u d a r.jumps s, .bare .ok)

/-- START (R16, R17). -/
def doStart (p : Port) (unit : Byte) (addr : Word) : State → State × Response :=
  inReady (withUnit unit (startUnit p addr))

/-- START: the command frame and its effect. -/
def execStart (p : Port) (unit : Byte) (addr : Word) (s : State) : Host.Outcome State Fault Refusal :=
  .next (takeCommand p 0x03 [unit, hiByte addr, loByte addr] (doStart p unit addr) s)

/-- An accepted ADOPT's response: the number of contexts adopted (R143). -/
def adoptedCount (n : Nat) : Response := { code := .ok, data := [BitVec.ofNat 8 n] }

/-- HALT on a unit: the first row of R18 that matches. -/
def haltUnit (p : Port) (u : UnitAddr) (s : State) : State × Response :=
  let c := s.ctx u
  if c.state = .idle then (s, .bare .idle)
  else if c.owner = some p.peer ∧ (s.port p.peer).state = .lapsed then (adoptCounted p u s, adoptedCount 1)
  else if c.state = .held then (s, .bare .busy)
  else if c.owner = some p.peer then (s, .bare .notOwner)
  else if c.halt ≠ none then (s, .bare .ok)
  else if c.state = .queued then (failOrder u .halted s, .bare .ok)
  else (haltOnLink u .halt s, .bare .ok)

/-- HALT (R18). -/
def doHalt (p : Port) (unit : Byte) : State → State × Response := inReady (withUnit unit (haltUnit p))

/-- HALT: the command frame and its effect. -/
def execHalt (p : Port) (unit : Byte) (s : State) : Host.Outcome State Fault Refusal :=
  .next (takeCommand p 0x04 [unit] (doHalt p unit) s)

/-- QUERY_UNIT (R19). -/
def doQueryUnit (unit : Byte) : State → State × Response :=
  inStarted (withUnit unit (fun u s => (s, { code := .ok, data := s.unitBytes u })))

/-- QUERY_UNIT: the command frame and its effect. -/
def execQueryUnit (p : Port) (unit : Byte) (s : State) : Host.Outcome State Fault Refusal :=
  .next (takeCommand p 0x05 [unit] (doQueryUnit unit) s)

/-- ADOPT of one unit after the peer is found LAPSED: the context must be owned by the peer (R143). -/
def adoptUnit (p : Port) (u : UnitAddr) (s : State) : State × Response :=
  if (s.ctx u).owner = some p.peer then (adoptCounted p u s, adoptedCount 1) else (s, .bare .notOwner)

/-- ADOPT ALL after the peer is found LAPSED: every context the peer owns, in ascending order (R143). -/
def adoptAll (p : Port) (s : State) : State × Response :=
  ((s.ownedBy p.peer).foldl (fun s u => adoptCounted p u s) s, adoptedCount (s.ownedBy p.peer).length)

/-- ADOPT (R143): the argument FFh is ALL (R186). -/
def doAdopt (p : Port) (arg : Byte) : State → State × Response :=
  inReady (fun s =>
    match unitOf arg with
    | some u => if (s.port p.peer).state = .lapsed then adoptUnit p u s else (s, .bare .peerActive)
    | none =>
      if arg = 0xFF then
        if (s.port p.peer).state = .lapsed then adoptAll p s else (s, .bare .peerActive)
      else (s, .bare .badArg))

/-- ADOPT: the command frame and its effect. -/
def execAdopt (p : Port) (arg : Byte) (s : State) : Host.Outcome State Fault Refusal :=
  .next (takeCommand p 0x06 [arg] (doAdopt p arg) s)

/-- The number of orders a LINK_RESET ends (R110, R111). -/
def State.ordersInProgress (s : State) : Nat := (allUnits.filter (fun u => (s.ctx u).inProgress)).length

/-- The five steps of LINK_RESET (R110). -/
def linkResetSteps (s : State) : State :=
  let s1 := allUnits.foldl (fun s u => linkResetContext u s) (beginLinkReset s)
  let s2 := ((s1.modSelectQ (fun _ => [])).modStopQ (fun _ => [])).setDeferred []
  offerBoth .linkResetDone (some s.ordersInProgress) s2

/-- LINK_RESET (R110). -/
def doLinkReset : State → State × Response := inStarted (fun s => (linkResetSteps s, .bare .ok))

/-- LINK_RESET: the command frame and its effect. -/
def execLinkReset (p : Port) (s : State) : Host.Outcome State Fault Refusal :=
  .next (takeCommand p 0x11 [] doLinkReset s)

end Sys2Proof.Machine
end

