-- ==== Sys2Proof/Machine/RecordCommands.lean ====
section
/-! DEFINITION. The port commands that the port interfaces, RCM and PORT_RESET own: READ_STATUS, KEEPALIVE, TAKE_RECORD,
PEEK_RECORD, PEER_TAKE and PORT_RESET (R178 to R180, R142, R118, R119, R147, R148). -/

namespace Sys2Proof.Machine

/-- READ_STATUS: the fields are reported and NOTICE_LOST is cleared in one event (R178, R180, log 18). -/
def doReadStatus (p : Port) (s : State) : State × Response :=
  (s.modPort p (fun x => { x with noticeLost := false }), { code := .ok, data := s.statusBytes p })

/-- READ_STATUS: the command frame and its effect. -/
def execReadStatus (p : Port) (s : State) : Host.Outcome State Fault Refusal :=
  .next (takeCommand p 0x01 [] (doReadStatus p) s)

/-- KEEPALIVE changes no state (R142). -/
def doKeepalive (s : State) : State × Response := (s, .bare .ok)

/-- KEEPALIVE: the command frame and its effect. -/
def execKeepalive (p : Port) (s : State) : Host.Outcome State Fault Refusal :=
  .next (takeCommand p 0x02 [] doKeepalive s)

/-- The record at the head of queue `x` is removed and returned, or EMPTY (R118, R147). -/
def takeFrom (x : Port) (s : State) : State × Response :=
  match (s.queue x).head? with
  | none => (s, .bare .empty)
  | some r => (removeHead x s, { code := .ok, data := r.bytes })

/-- TAKE_RECORD (R118). -/
def doTakeRecord (p : Port) (s : State) : State × Response := takeFrom p s

/-- TAKE_RECORD: the command frame and its effect. -/
def execTakeRecord (p : Port) (s : State) : Host.Outcome State Fault Refusal :=
  .next (takeCommand p 0x07 [] (doTakeRecord p) s)

/-- PEEK_RECORD (R119). -/
def doPeekRecord (p : Port) (s : State) : State × Response :=
  match (s.queue p).head? with
  | none => (s, .bare .empty)
  | some r => (s, { code := .ok, data := r.bytes })

/-- PEEK_RECORD: the command frame and its effect. -/
def execPeekRecord (p : Port) (s : State) : Host.Outcome State Fault Refusal :=
  .next (takeCommand p 0x08 [] (doPeekRecord p) s)

/-- PEER_TAKE (R147). -/
def doPeerTake (p : Port) (s : State) : State × Response :=
  if (s.port p.peer).state = .lapsed then takeFrom p.peer s else (s, .bare .peerActive)

/-- PEER_TAKE: the command frame and its effect. -/
def execPeerTake (p : Port) (s : State) : Host.Outcome State Fault Refusal :=
  .next (takeCommand p 0x09 [] (doPeerTake p) s)

/-- The five steps of PORT_RESET (R148). Its contexts are acted on in ascending order of unit address, in which the DISCONNECTED
ones join the stop queue (the model's choice, log 34). -/
def portResetSteps (p : Port) (s : State) : State :=
  let s1 := (s.ownedBy p).foldl (fun s u => portResetContext u s) s
  let s2 := ((s1.setHeldList p []).setQueue p []).setSeqNo p 0
  let s3 := s2.modPort p (fun x => { x with noticeLost := false, stamp := .void })
  offerNotice p.peer .peerReset none s3

/-- PORT_RESET (R148). -/
def doPortReset (p : Port) (s : State) : State × Response := (portResetSteps p s, .bare .ok)

/-- PORT_RESET: the command frame and its effect. -/
def execPortReset (p : Port) (s : State) : Host.Outcome State Fault Refusal :=
  .next (takeCommand p 0x10 [] (doPortReset p) s)

end Sys2Proof.Machine
end

