-- ==== Sys2Proof/Machine/StoreCommands.lean ====
section
/-! DEFINITION. The port commands that STR owns: READ_STORE, WRITE_STORE and the four page commands (R50 to R55). -/

namespace Sys2Proof.Machine

/-- The address check of R54 for a range of bytes. -/
def bytesOk (addr : Word) (n : Nat) : Bool :=
  addr.toNat ≤ 0x7FFF && 1 ≤ n && n ≤ 64 && addr.toNat + n ≤ 0x8000

/-- The lowest page holding a byte of the range that is not open to the port (R54). -/
def State.closedPage (s : State) (p : Port) (addr : Word) (n : Nat) : Option PageNo :=
  [pageOf addr, pageOf (addr + BitVec.ofNat 16 (n - 1))].find? (fun q => !s.pageOpen p q)

/-- READ_STORE (R54). -/
def doReadStore (p : Port) (addr : Word) (len : Byte) (s : State) : State × Response :=
  if bytesOk addr len.toNat then
    match s.closedPage p addr len.toNat with
    | some q => (s, .naming .pageFault q.val)
    | none => (s, { code := .ok, data := s.readBytes addr len.toNat })
  else (s, .bare .badArg)

/-- READ_STORE: the command frame and its effect. -/
def execReadStore (p : Port) (addr : Word) (len : Byte) (s : State) : Host.Outcome State Fault Refusal :=
  .next (takeCommand p 0x0A [hiByte addr, loByte addr, len] (doReadStore p addr len) s)

/-- WRITE_STORE (R55). -/
def doWriteStore (p : Port) (addr : Word) (data : List Byte) (s : State) : State × Response :=
  if bytesOk addr data.length then
    match s.closedPage p addr data.length with
    | some q => (s, .naming .pageFault q.val)
    | none => (s.writeBytes addr data, .bare .ok)
  else (s, .bare .badArg)

/-- A command code and an argument length above 70 are taken: the frame is bad at once (R172). -/
def takeBadLength (p : Port) (code len : Byte) (s : State) : State :=
  takeFrame p [code, len] (fun x => (x, .bare .frameError)) s

/-- WRITE_STORE: the command frame and its effect. No data byte, or 65 to 68, is a wrong argument length; 69 or more make the
argument length exceed 70 (R55). -/
def execWriteStore (p : Port) (addr : Word) (data : List Byte) (s : State) : Host.Outcome State Fault Refusal :=
  let args := hiByte addr :: loByte addr :: data
  if args.length ≤ Config.maxArgs then
    .next (takeCommand p 0x0B args
      (fun x => if lengthAccepted 0x0B args.length then doWriteStore p addr data x else (x, .bare .badCommand)) s)
  else .next (takeBadLength p 0x0B (BitVec.ofNat 8 (min 255 args.length)) s)

/-- CLAIM_PAGES (R50). -/
def doClaimPages (p : Port) (first number : Byte) (s : State) : State × Response :=
  if rangeOk first number then
    match (pageRange first.toNat number.toNat).find? (fun q => (s.page q).tag ≠ .free) with
    | some q => (s, .naming .inUse q.val)
    | none => (s.tagPages (Tag.ofPort p) (pageRange first.toNat number.toNat), .bare .ok)
  else (s, .bare .badArg)

/-- CLAIM_PAGES: the command frame and its effect. -/
def execClaimPages (p : Port) (first number : Byte) (s : State) : Host.Outcome State Fault Refusal :=
  .next (takeCommand p 0x0C [first, number] (doClaimPages p first number) s)

/-- SHARE_PAGES (R51). -/
def doSharePages (p : Port) (first number : Byte) (s : State) : State × Response :=
  if rangeOk first number then
    match (pageRange first.toNat number.toNat).find? (fun q => (s.page q).tag ≠ Tag.ofPort p) with
    | some q => (s, .naming .notOwner q.val)
    | none => (s.tagPages .shared (pageRange first.toNat number.toNat), .bare .ok)
  else (s, .bare .badArg)

/-- SHARE_PAGES: the command frame and its effect. -/
def execSharePages (p : Port) (first number : Byte) (s : State) : Host.Outcome State Fault Refusal :=
  .next (takeCommand p 0x0D [first, number] (doSharePages p first number) s)

/-- RELEASE_PAGES: each check is made over the whole range before the next begins (R52). -/
def doReleasePages (p : Port) (first number : Byte) (s : State) : State × Response :=
  if rangeOk first number then
    match (pageRange first.toNat number.toNat).find? (fun q => !s.pageOpen p q) with
    | some q => (s, .naming .notOwner q.val)
    | none =>
      match (pageRange first.toNat number.toNat).find? (fun q => (s.page q).uses ≠ 0) with
      | some q => (s, .naming .inUse q.val)
      | none => (s.tagPages .free (pageRange first.toNat number.toNat), .bare .ok)
  else (s, .bare .badArg)

/-- RELEASE_PAGES: the command frame and its effect. -/
def execReleasePages (p : Port) (first number : Byte) (s : State) : Host.Outcome State Fault Refusal :=
  .next (takeCommand p 0x0E [first, number] (doReleasePages p first number) s)

/-- QUERY_PAGES (R53). -/
def doQueryPages (first number : Byte) (s : State) : State × Response :=
  if rangeOk first number then
    (s, { code := .ok, data := (pageRange first.toNat number.toNat).map (fun q => (s.page q).byte) })
  else (s, .bare .badArg)

/-- QUERY_PAGES: the command frame and its effect. -/
def execQueryPages (p : Port) (first number : Byte) (s : State) : Host.Outcome State Fault Refusal :=
  .next (takeCommand p 0x0F [first, number] (doQueryPages first number) s)

end Sys2Proof.Machine
end

