-- ==== Sys2Proof/Machine/PortEvents.lean ====
section
/-! DEFINITION. The events of a port: frames that carry no command, chip select, bytes, and the port timers (R138, R164, R166,
R170 to R173). -/

namespace Sys2Proof.Machine

/-- BAD_COMMAND: a good frame whose code is unassigned or whose argument length does not suit it (R173 steps 3 and 4). -/
def execBadCommand (p : Port) (code : Byte) (args : List Byte) (s : State) : Host.Outcome State Fault Refusal :=
  if args.length ≤ Config.maxArgs && !lengthAccepted code.toNat args.length then
    .next (takeCommand p code args (fun x => (x, .bare .badCommand)) s)
  else .next s

/-- FRAME_ERROR: a complete frame with a bad CRC-8; no lease restart, no resumption (R173 step 1). -/
def execFrameError (p : Port) (frame : List Byte) (s : State) : Host.Outcome State Fault Refusal :=
  if frameWhole frame && !frameGood frame then
    .next (takeFrame p frame (fun x => (x, .bare .frameError)) s)
  else .next s

/-- ARGUMENT_LENGTH_ERROR: an argument length byte above 70 (R172). -/
def execArgumentLengthError (p : Port) (code len : Byte) (s : State) : Host.Outcome State Fault Refusal :=
  if Config.maxArgs < len.toNat then .next (takeBadLength p code len s) else .next s

/-- Chip select asserted: UNSELECTED goes to RECEIVING, with no byte taken (R170). While a reset is in progress only the pin's
level changes (R187). -/
def execChipSelectAssert (p : Port) (s : State) : Host.Outcome State Fault Refusal :=
  let s1 := s.modPort p (fun x => { x with chipSelect := true })
  if s.dsc.phase = .none ∧ (s.port p).receiver.state = .unselected then
    .next (s1.modReceiver p (fun _ => { Receiver.unselected with state := .receiving }))
  else .next s1

/-- Chip select deasserted: the receiver goes to UNSELECTED and what it held is discarded (R170, R171). Deasserted on the port
that agreed a part reset, it takes the reset (R166). -/
def execChipSelectDeassert (p : Port) (s : State) : Host.Outcome State Fault Refusal :=
  let s1 := s.modPort p (fun x => { x with chipSelect := false })
  if s.dsc.phase ≠ .none then .next s1
  else if s.dsc.agreed = some p then .next (takeAgreedReset s1)
  else .next (s1.modReceiver p (fun _ => Receiver.unselected))

/-- The command of a good frame, by its code and argument bytes; BAD_COMMAND for a code or a length that is none (R173, R176,
11.2). -/
def runCommand (p : Port) (code : Byte) (args : List Byte) : State → State × Response :=
  match code.toNat, args with
  | 0x01, [] => doReadStatus p
  | 0x02, [] => doKeepalive
  | 0x03, [u, h, l] => doStart p u (wordOf h l)
  | 0x04, [u] => doHalt p u
  | 0x05, [u] => doQueryUnit u
  | 0x06, [u] => doAdopt p u
  | 0x07, [] => doTakeRecord p
  | 0x08, [] => doPeekRecord p
  | 0x09, [] => doPeerTake p
  | 0x0A, [h, l, n] => doReadStore p (wordOf h l) n
  | 0x0B, h :: l :: d :: ds =>
    if ds.length ≤ 63 then doWriteStore p (wordOf h l) (d :: ds) else fun s => (s, .bare .badCommand)
  | 0x0C, [f, n] => doClaimPages p f n
  | 0x0D, [f, n] => doSharePages p f n
  | 0x0E, [f, n] => doReleasePages p f n
  | 0x0F, [f, n] => doQueryPages f n
  | 0x10, [] => doPortReset p
  | 0x11, [] => doLinkReset
  | 0x12, [] => doPartReset p
  | 0x13, [i, u, m, h, l] => doLoadDirectory i u m h l
  | 0x14, [n, l] => doCommitDirectory n l
  | 0x15, [i] => doReadDirectory i
  | _, _ => fun s => (s, .bare .badCommand)

/-- A whole frame is judged: its CRC-8, then lease and resumption, then the command (R173). -/
def judgeFrame (p : Port) (frame : List Byte) (s : State) : State × Response :=
  if frameGood frame then
    match frame.dropLast with
    | code :: _ :: args => runCommand p code args (goodFrame p s)
    | _ => (s, .bare .frameError)
  else (s, .bare .frameError)

/-- A byte taken in RECEIVING: an argument length above 70, the CRC-8 byte, or one more frame byte (R170, R172, R173). -/
def receiveByte (p : Port) (b : Byte) (s : State) : State :=
  let bs := (s.port p).receiver.bytes ++ [b]
  if bs.length = 2 ∧ Config.maxArgs < b.toNat then takeFrame p bs (fun x => (x, .bare .frameError)) s
  else if frameWhole bs then takeFrame p bs (judgeFrame p bs) s
  else s.modReceiver p (fun x => { x with bytes := bs, count := x.count + 1 })

/-- The bytes of the response a receiver is sending. -/
def Receiver.responseLength (x : Receiver) : Nat :=
  match x.response with
  | none => 0
  | some r => r.wire.length

/-- BYTE_TAKEN: the receiver advances by one byte (R170). A response that has been clocked out is kept no longer (R170, R182).
The last byte of the OK response of an agreed part reset takes the
reset (R166). -/
def execByteTaken (p : Port) (b : Byte) (s : State) : Host.Outcome State Fault Refusal :=
  let x := (s.port p).receiver
  if s.dsc.phase ≠ .none then .next s
  else
    match x.state with
    | .unselected => .next s
    | .receiving => .next (receiveByte p b s)
    | .turnaround =>
      .next (s.modReceiver p (fun x =>
        { x with count := x.count + 1,
                 state := if x.count + 1 = x.bytes.length + 2 then .responding else .turnaround }))
    | .responding =>
      if x.count + 1 < x.bytes.length + 2 + x.responseLength then
        .next (s.modReceiver p (fun x => { x with count := x.count + 1 }))
      else if s.dsc.agreed = some p then .next (takeAgreedReset s)
      else .next (s.modReceiver p (fun x => { x with count := x.count + 1, state := .draining, response := none }))
    | .draining => .next (s.modReceiver p (fun x => { x with count := x.count + 1 }))
    | .ignoring => .next s

/-- LEASE_EXPIRY (R138). -/
def lapse (p : Port) (s : State) : State :=
  offerNotice p.peer .peerLapsed none (s.modPort p (fun x =>
    { x with state := .lapsed, lease := .stopped, lapseCount := min Config.maxLapses (x.lapseCount + 1),
             adoptedAway := 0 }))

/-- LEASE_EXPIRY: taken while the lease timer of an ACTIVE port runs (R138). -/
def execLeaseExpiry (p : Port) (s : State) : Host.Outcome State Fault Refusal :=
  if (s.port p).lease.runs ∧ (s.port p).state = .active then .next (lapse p s) else .next s

/-- Whether a stamp's expiry timer runs (R164). -/
def Stamp.runs : Stamp → Bool
  | .void => false
  | .set t => t.runs

/-- STAMP_EXPIRY: a running expiry timer makes the stamp void (R164). -/
def execStampExpiry (p : Port) (s : State) : Host.Outcome State Fault Refusal :=
  if (s.port p).stamp.runs then .next (s.modPort p (fun x => { x with stamp := .void })) else .next s

/-- AGREED_RESET_TAKEN: the OK response has been clocked out, or chip select has fallen (R166, log 12). -/
def execAgreedResetTaken (s : State) : Host.Outcome State Fault Refusal :=
  if s.dsc.agreed = none then .next s else .next (takeAgreedReset s)

end Sys2Proof.Machine
end

