-- ==== Sys2Proof/Machine/ResetEvents.lean ====
section
/-! DEFINITION. Power-on, the RESET pin, the link-reset timer and the end of a load attempt (R86, R153 to R157, R187). -/

namespace Sys2Proof.Machine

/-- POWER_ON: every block is held at its power-on values (R153, R187). -/
def execPowerOn (s : State) : Host.Outcome State Fault Refusal :=
  .next ((resetBlocks .powerOn s).modDsc (fun d => { d with phase := .powerOn }))

/-- POWER_ON_END: with RESET released the reset ends, the straps are captured and start-up begins; with RESET asserted the
reset goes on until its release (R187). -/
def execPowerOnEnd (x : Straps) (s : State) : Host.Outcome State Fault Refusal :=
  if s.dsc.phase = .powerOn then
    if s.dsc.resetPin then .next (s.modDsc (fun d => { d with phase := .held }))
    else .next (captureAndStart x s)
  else .next s

/-- RESET_ASSERT: with the supply valid a part-level reset of cause PIN is in progress; during a power-on only the pin's level
changes, and the cause stays POWER_ON (R151, R187). -/
def execResetAssert (s : State) : Host.Outcome State Fault Refusal :=
  if s.dsc.phase = .none then
    .next ((resetBlocks .pin s).modDsc (fun d => { d with phase := .held, resetPin := true }))
  else .next (s.modDsc (fun d => { d with resetPin := true }))

/-- RESET_RELEASE: a reset held by the pin ends, the straps are captured and start-up begins (R152, R153, R187). -/
def execResetRelease (x : Straps) (s : State) : Host.Outcome State Fault Refusal :=
  if s.dsc.phase = .held then .next (captureAndStart x (s.modDsc (fun d => { d with resetPin := false })))
  else .next (s.modDsc (fun d => { d with resetPin := false }))

/-- BREAK_END: the link-reset timer expires in BREAK; LNK enters SETTLE (R86). -/
def execBreakEnd (s : State) : Host.Outcome State Fault Refusal :=
  if s.lnk.link = .inBreak ∧ s.lnk.linkTimer.runs then
    .next (s.modLnk (fun l => { l with link := .settle, linkTimer := .running Config.settleTime }))
  else .next s

/-- SETTLE_END: the link-reset timer expires in SETTLE; LNK samples SRQ and enters OPEN, and at start-up DSC takes the end of
the settle time (R86, R154). -/
def execSettleEnd (s : State) : Host.Outcome State Fault Refusal :=
  if s.lnk.link = .settle ∧ s.lnk.linkTimer.runs then
    let s1 := s.modLnk (fun l => { l with link := .opened, linkTimer := .stopped, srqSampled := l.srqLine })
    if s.dsc.part = .loading ∧ s.dsc.load = .none then .next (settleStartUp s1) else .next s1
  else .next s

/-- LOAD_ATTEMPT_END: a valid image succeeds; a failure of the first attempt begins the second, of the second fails the load
(R157). -/
def execLoadAttemptEnd (image : List Byte) (s : State) : Host.Outcome State Fault Refusal :=
  match s.dsc.load, directoryOf image with
  | .first, some d => .next (loadSucceeds d s)
  | .first, none => .next (s.modDsc (fun x => { x with load := .second }))
  | .second, some d => .next (loadSucceeds d s)
  | .second, none => .next (loadFails s)
  | .none, _ => .next s
  | .loaded, _ => .next s
  | .failed, _ => .next s

end Sys2Proof.Machine
end

