-- ==== Sys2Proof/Machine/Dispatch.lean ====
section
/-! DEFINITION. The dispatch: one arm per command, each one call of its meaning. -/

namespace Sys2Proof.Machine

/-- The effect of a command on everything but the queue. -/
def exec (i : Instr) (s : State) : Host.Outcome State Fault Refusal :=
  match i with
  | .readStatus p => Sys2Proof.Machine.execReadStatus p s
  | .keepalive p => Sys2Proof.Machine.execKeepalive p s
  | .start p unit addr => Sys2Proof.Machine.execStart p unit addr s
  | .halt p unit => Sys2Proof.Machine.execHalt p unit s
  | .queryUnit p unit => Sys2Proof.Machine.execQueryUnit p unit s
  | .adopt p arg => Sys2Proof.Machine.execAdopt p arg s
  | .takeRecord p => Sys2Proof.Machine.execTakeRecord p s
  | .peekRecord p => Sys2Proof.Machine.execPeekRecord p s
  | .peerTake p => Sys2Proof.Machine.execPeerTake p s
  | .readStore p addr len => Sys2Proof.Machine.execReadStore p addr len s
  | .writeStore p addr data => Sys2Proof.Machine.execWriteStore p addr data s
  | .claimPages p first number => Sys2Proof.Machine.execClaimPages p first number s
  | .sharePages p first number => Sys2Proof.Machine.execSharePages p first number s
  | .releasePages p first number => Sys2Proof.Machine.execReleasePages p first number s
  | .queryPages p first number => Sys2Proof.Machine.execQueryPages p first number s
  | .portReset p => Sys2Proof.Machine.execPortReset p s
  | .linkReset p => Sys2Proof.Machine.execLinkReset p s
  | .partReset p => Sys2Proof.Machine.execPartReset p s
  | .loadDirectory p index unit mode home silence => Sys2Proof.Machine.execLoadDirectory p index unit mode home silence s
  | .commitDirectory p count lease => Sys2Proof.Machine.execCommitDirectory p count lease s
  | .readDirectory p index => Sys2Proof.Machine.execReadDirectory p index s
  | .badCommand p code args => Sys2Proof.Machine.execBadCommand p code args s
  | .frameError p frame => Sys2Proof.Machine.execFrameError p frame s
  | .argumentLengthError p code len => Sys2Proof.Machine.execArgumentLengthError p code len s
  | .chipSelectAssert p => Sys2Proof.Machine.execChipSelectAssert p s
  | .chipSelectDeassert p => Sys2Proof.Machine.execChipSelectDeassert p s
  | .leaseExpiry p => Sys2Proof.Machine.execLeaseExpiry p s
  | .stampExpiry p => Sys2Proof.Machine.execStampExpiry p s
  | .agreedResetTaken => Sys2Proof.Machine.execAgreedResetTaken s
  | .powerOn => Sys2Proof.Machine.execPowerOn s
  | .powerOnEnd straps => Sys2Proof.Machine.execPowerOnEnd straps s
  | .resetAssert => Sys2Proof.Machine.execResetAssert s
  | .resetRelease straps => Sys2Proof.Machine.execResetRelease straps s
  | .breakEnd => Sys2Proof.Machine.execBreakEnd s
  | .settleEnd => Sys2Proof.Machine.execSettleEnd s
  | .loadAttemptEnd image => Sys2Proof.Machine.execLoadAttemptEnd image s
  | .srqChange asserted => Sys2Proof.Machine.execSrqChange asserted s
  | .haltSelectionGrant => Sys2Proof.Machine.execHaltSelectionGrant s
  | .recallGrant => Sys2Proof.Machine.execRecallGrant s
  | .pollGrant => Sys2Proof.Machine.execPollGrant s
  | .selectionGrant => Sys2Proof.Machine.execSelectionGrant s
  | .frameSent => Sys2Proof.Machine.execFrameSent s
  | .replyTimerExpiry => Sys2Proof.Machine.execReplyTimerExpiry s
  | .gapTimerExpiry => Sys2Proof.Machine.execGapTimerExpiry s
  | .silenceTimerExpiry unit => Sys2Proof.Machine.execSilenceTimerExpiry unit s
  | .rsp addr status => Sys2Proof.Machine.execRsp addr status s
  | .reqInData addr mark data => Sys2Proof.Machine.execReqInData addr mark data s
  | .reqOutData addr mark => Sys2Proof.Machine.execReqOutData addr mark s
  | .reqStatus addr mark status => Sys2Proof.Machine.execReqStatus addr mark status s
  | .reqRepeat addr body => Sys2Proof.Machine.execReqRepeat addr body s
  | .ack addr => Sys2Proof.Machine.execAck addr s
  | .nak addr => Sys2Proof.Machine.execNak addr s
  | .corruptFrame => Sys2Proof.Machine.execCorruptFrame s
  | .byteTaken p byte => Sys2Proof.Machine.execByteTaken p byte s
  | .frameStart => Sys2Proof.Machine.execFrameStart s

end Sys2Proof.Machine
end

