-- ==== Sys2Proof/Machine/Pins.lean ====
section
/-! DEFINITION. What the part drives on the unit link and the configuration port, as functions of the state (R63, R86, R155,
R187, 11.7). The ports' outputs are `State.output` and `State.atn`. -/

namespace Sys2Proof.Machine

/-- What the part does with the unit-link pair: its driver is off, it holds the pair in break, or it sends a frame. -/
inductive LinkPair
  | driverOff
  | broken
  | sends (f : CtlFrame)
  deriving DecidableEq, Repr

/-- The unit-link pair: the driver is off while a reset is in progress (R187) and whenever LNK sends nothing; the pair is held in
break in BREAK (R86); a frame to be sent is sent once no frame is being received (R72, log 28). -/
def State.linkPair (s : State) : LinkPair :=
  if s.dsc.phase ≠ .none then .driverOff
  else
    match s.lnk.link, s.lnk.exchange with
    | .inBreak, _ => .broken
    | .exchange, some e => if e.sending ∧ s.lnk.reception = .none then .sends e.frame else .driverOff
    | _, _ => .driverOff

/-- The rate of the unit link in Mbit/s, as LINK_RATE was captured (R63). -/
def State.linkMbit (s : State) : Nat :=
  match s.dsc.straps.linkRate with
  | .mbit2 => 2
  | .mbit4 => 4

/-- Whether CFG_CS is asserted, that is low: in a load attempt and at no other time (R155, R187). -/
def State.cfgSelected (s : State) : Bool :=
  s.dsc.phase = .none && (s.dsc.load = .first || s.dsc.load = .second)

/-- The bytes DSC sends on the configuration port in the attempt in progress, before it reads the image: the read instruction 03h
and the start address 0, of two bytes in the first attempt and three in the second (R155). -/
def State.cfgSends (s : State) : List Byte :=
  if s.cfgSelected then
    match s.dsc.load with
    | .first => [0x03, 0, 0]
    | .second => [0x03, 0, 0, 0]
    | .none => []
    | .loaded => []
    | .failed => []
  else []

/-- The rate of the configuration port's clock in MHz, as CFG_SPEED was captured (R155). -/
def State.cfgMHz (s : State) : Nat :=
  match s.dsc.straps.cfgSpeed with
  | .mhz1 => 1
  | .mhz8 => 8

/-- Whether CFG_SCK is held low by a reset in progress (R187). The pulses of an attempt are not kept one by one (log 27). -/
def State.cfgClockHeldLow (s : State) : Bool := s.dsc.phase ≠ .none

end Sys2Proof.Machine
end

