-- ==== Sys2Proof/WellFormed.lean ====
section
/-! DEFINITION. When a command's operands are those of its row: the frame a row names is the frame it says it is. Every
meaning is total: for operands that are not of the row it does what the frame they spell would do (log 21). -/

namespace Sys2Proof

open Machine

/-- The unit address of a good link frame is 0 to 31 (R64). -/
def addrWellFormed (addr : Byte) : Bool := addr.toNat ≤ 31

/-- A REQ IN_DATA carries 1 to 16 bytes (R64, R66). -/
def inDataWellFormed (data : List Byte) : Bool := 1 ≤ data.length && data.length ≤ Config.frameBytes

/-- The bytes DSC reads in a load attempt: the header, and the entries and CRC when the header passes (R155, R156). -/
def imageWellFormed (image : List Byte) : Bool :=
  match image with
  | [s0, s1, s2, s3, version, count, lease] =>
    !(s0 = 0x54 && s1 = 0x43 && s2 = 0x4E && s3 = 0x64 && version = 1 && count.toNat ≤ 32 && 1 ≤ lease.toNat)
  | s0 :: s1 :: s2 :: s3 :: version :: count :: lease :: rest =>
    s0 = 0x54 && s1 = 0x43 && s2 = 0x4E && s3 = 0x64 && version = 1 && count.toNat ≤ 32 && 1 ≤ lease.toNat &&
      rest.length = 4 * count.toNat + 2
  | _ => false

/-- The payload of a REQ is of its kind (R64). -/
def bodyWellFormed : ReqBody → Bool
  | .inData data => inDataWellFormed data
  | .outData => true
  | .status _ => true

/-- The operands of a command are those of its row. -/
def Instr.wellFormed : Instr → Bool
  | .readStatus _ => true
  | .keepalive _ => true
  | .start _ _ _ => true
  | .halt _ _ => true
  | .queryUnit _ _ => true
  | .adopt _ _ => true
  | .takeRecord _ => true
  | .peekRecord _ => true
  | .peerTake _ => true
  | .readStore _ _ _ => true
  | .writeStore _ _ data => 1 ≤ data.length && data.length ≤ 64
  | .claimPages _ _ _ => true
  | .sharePages _ _ _ => true
  | .releasePages _ _ _ => true
  | .queryPages _ _ _ => true
  | .portReset _ => true
  | .linkReset _ => true
  | .partReset _ => true
  | .loadDirectory _ _ _ _ _ _ => true
  | .commitDirectory _ _ _ => true
  | .readDirectory _ _ => true
  | .badCommand _ code args => args.length ≤ Config.maxArgs && !lengthAccepted code.toNat args.length
  | .frameError _ frame => frameWhole frame && !frameGood frame
  | .argumentLengthError _ _ len => Config.maxArgs < len.toNat
  | .chipSelectAssert _ => true
  | .chipSelectDeassert _ => true
  | .leaseExpiry _ => true
  | .stampExpiry _ => true
  | .agreedResetTaken => true
  | .powerOn => true
  | .powerOnEnd _ => true
  | .resetAssert => true
  | .resetRelease _ => true
  | .breakEnd => true
  | .settleEnd => true
  | .loadAttemptEnd image => imageWellFormed image
  | .srqChange _ => true
  | .haltSelectionGrant => true
  | .recallGrant => true
  | .pollGrant => true
  | .selectionGrant => true
  | .frameSent => true
  | .replyTimerExpiry => true
  | .gapTimerExpiry => true
  | .silenceTimerExpiry _ => true
  | .rsp addr _ => addrWellFormed addr
  | .reqInData addr _ data => addrWellFormed addr && inDataWellFormed data
  | .reqOutData addr _ => addrWellFormed addr
  | .reqStatus addr _ _ => addrWellFormed addr
  | .reqRepeat addr body => addrWellFormed addr && bodyWellFormed body
  | .ack addr => addrWellFormed addr
  | .nak addr => addrWellFormed addr
  | .corruptFrame => true
  | .byteTaken _ _ => true
  | .frameStart => true

end Sys2Proof
end

