-- ==== Sys2Proof/Safety.lean ====
section
/-! DEFINITION. What claims about the machine speak of: when a command frame is taken and what its command finds, and the
invariants every step keeps. -/

namespace Sys2Proof.Machine

/-! ### Command frames -/

/-- Port `p` takes the rest of this command frame, and no part reset has been agreed (R166, R170; log 4). -/
abbrev State.takes (s : State) (p : Port) (code : Byte) (args : List Byte) : Prop :=
  s.canTake p (commandFrame code args) = true ∧ s.dsc.agreed = none

/-- What the command of a good frame finds: the frame taken, the lease restarted or the port resumed (R173 step 2). -/
def State.judged (s : State) (p : Port) (code : Byte) (args : List Byte) : State :=
  goodFrame p (frameTaken p (commandFrame code args) s)

/-- Port `p` answers a response without data. -/
def answers (p : Port) (c : Result) (s : State) : State := respond p (.bare c) s

/-- The bytes of the frame a port command row stands for: its port, code and argument bytes (11.2); none for a row that is no
port command. -/
def rowFrame : Instr → Option (Port × Byte × List Byte)
  | .readStatus p => some (p, 0x01, [])
  | .keepalive p => some (p, 0x02, [])
  | .start p u a => some (p, 0x03, [u, hiByte a, loByte a])
  | .halt p u => some (p, 0x04, [u])
  | .queryUnit p u => some (p, 0x05, [u])
  | .adopt p u => some (p, 0x06, [u])
  | .takeRecord p => some (p, 0x07, [])
  | .peekRecord p => some (p, 0x08, [])
  | .peerTake p => some (p, 0x09, [])
  | .readStore p a n => some (p, 0x0A, [hiByte a, loByte a, n])
  | .writeStore p a d => some (p, 0x0B, hiByte a :: loByte a :: d)
  | .claimPages p f n => some (p, 0x0C, [f, n])
  | .sharePages p f n => some (p, 0x0D, [f, n])
  | .releasePages p f n => some (p, 0x0E, [f, n])
  | .queryPages p f n => some (p, 0x0F, [f, n])
  | .portReset p => some (p, 0x10, [])
  | .linkReset p => some (p, 0x11, [])
  | .partReset p => some (p, 0x12, [])
  | .loadDirectory p i u m h l => some (p, 0x13, [i, u, m, h, l])
  | .commitDirectory p n l => some (p, 0x14, [n, l])
  | .readDirectory p i => some (p, 0x15, [i])
  | .badCommand p code args => some (p, code, args)
  | _ => none

/-! ### Page ranges and store ranges -/

/-- The range check of R50. -/
abbrev rangeFits (first number : Byte) : Prop :=
  first.toNat ≤ 63 ∧ 1 ≤ number.toNat ∧ number.toNat ≤ 64 ∧ first.toNat + number.toNat - 1 ≤ 63

/-- A page of the range that begins at the first page and has so many pages (R50). -/
abbrev inRange (first number : Byte) (q : PageNo) : Prop := first.toNat ≤ q.val ∧ q.val < first.toNat + number.toNat

/-- A page is the lowest of a range that fails a test (R50 to R52). -/
abbrev lowestFailing (inR : PageNo → Prop) (ok : PageNo → Prop) (q : PageNo) : Prop :=
  inR q ∧ ¬ ok q ∧ ∀ r, inR r → r < q → ok r

/-- The address check of R54 for a range of bytes. -/
abbrev bytesFit (addr : Word) (n : Nat) : Prop := addr.toNat ≤ 0x7FFF ∧ 1 ≤ n ∧ n ≤ 64 ∧ addr.toNat + n ≤ 0x8000

/-- A page that holds a byte of the range (R54). -/
abbrev holdsByte (addr : Word) (n : Nat) (q : PageNo) : Prop := ∃ i, i < n ∧ (addr.toNat + i) / 512 = q.val

/-- `s` with other page entries. -/
def State.withPages (s : State) (v : Vector PageEntry 64) : State := { s with str := { s.str with pages := v } }

/-- `s` with other store bytes. -/
def State.withStore (s : State) (m : Store) : State := { s with str := { s.str with store := m } }

/-! ### The link -/

/-- LNK is in HOLD for the LONG connection of a CONNECTED context and waits for its next REQ (R79). -/
abbrev State.holds (s : State) (u : UnitAddr) : Prop :=
  s.lnk.link = .hold ∧ s.lnk.conn = some u ∧ s.awaits = true ∧ (s.ctx u).state = .connected

/-- An exchange is in flight whose frame has been sent, and LNK waits for the reply (R72). -/
abbrev State.awaitsReply (s : State) (e : Exchange) : Prop :=
  s.lnk.link = .exchange ∧ s.lnk.exchange = some e ∧ e.sending = false ∧ e.more = [] ∧ s.awaits = true

/-- LNK waits for the next REQ of the LONG connection of a CONNECTED context: in HOLD, or in an exchange after NAK (R74, R79). -/
abbrev State.long (s : State) (u : UnitAddr) : Prop :=
  s.holds u ∨
    (s.lnk.conn = some u ∧ (s.ctx u).state = .connected ∧
      ∃ e ∈ s.lnk.exchange, s.awaitsReply e ∧ e.kind = .request ∧ e.unit = some u)

/-- LNK waits for the reply to a POLL (R77). -/
abbrev State.polls (s : State) : Prop := ∃ e ∈ s.lnk.exchange, s.awaitsReply e ∧ e.kind = .poll

/-- A REQ of this unit taken now is one of its order: the unit holds a LONG connection, or it answers a POLL while its context is
DISCONNECTED (R71, R77). -/
abbrev State.hears (s : State) (u : UnitAddr) : Prop :=
  s.long u ∨ (s.polls ∧ s.entry u ≠ none ∧ (s.ctx u).state = .disconnected)

/-- The link engine once a frame it waited for has been taken whole (R64, R72, R79). -/
def Lnk.heard (l : Lnk) : Lnk := { l with reception := .none, replyTimer := .stopped, gapTimer := .stopped }

/-- A REQ by its address byte, mark and body; an address above 31 or a body that does not suit its kind makes it corrupt (R64). -/
def reqFrame (addr : Byte) (mark : Bool) (body : ReqBody) : UnitFrame :=
  match unitOf addr, bodyWellFormed body with
  | some u, true => .req u mark body
  | _, _ => .corrupt

/-- The unit frame a row of the link stands for (R64, R66); none for a row that is no frame of a unit. -/
def linkFrame : Instr → Option UnitFrame
  | .rsp addr st => some ((unitOf addr).elim .corrupt (fun u => .rsp u (statusOf st)))
  | .reqInData addr mark data => some (reqFrame addr mark (.inData data))
  | .reqOutData addr mark => some (reqFrame addr mark .outData)
  | .reqStatus addr mark st => some (reqFrame addr mark (.status st))
  | .reqRepeat addr body => some (reqFrame addr true body)
  | .ack addr => some ((unitOf addr).elim .corrupt UnitFrame.ack)
  | .nak addr => some ((unitOf addr).elim .corrupt UnitFrame.nak)
  | .corruptFrame => some .corrupt
  | _ => none

/-! ### Invariants -/

/-- The store list is in its canonical form (log 17). -/
abbrev State.storeOk (s : State) : Prop := s.str.store.wf = true

/-- A context's current segment lies in a page. -/
def Context.segIn (c : Context) (q : PageNo) : Bool :=
  match c.seg with
  | none => false
  | some g => g.page = q

/-- The contexts whose current segment lies in a page (R49). -/
def State.usersOf (s : State) (q : PageNo) : List UnitAddr := allUnits.filter (fun u => (s.ctx u).segIn q)

/-- Every page's use count is the number of contexts whose current segment lies in it, and a page in use is never FREE (R49). -/
def State.useCountsOk (s : State) : Prop :=
  ∀ q : PageNo, (s.page q).uses = (s.usersOf q).length ∧ ((s.page q).tag = .free → (s.page q).uses = 0)

/-- A list of records carries consecutive sequence numbers, the last one before `next`; 0 follows 65535 (R115, R116). -/
def numbered (q : List Record) (next : Word) : Prop :=
  ∀ i : Nat, i < q.length → (q.map Record.seq)[i]? = some (next - BitVec.ofNat 16 (q.length - i))

/-- Each completion queue holds at most 16 records, with consecutive sequence numbers up to its counter (R115, R116). -/
def State.queuesOk (s : State) : Prop :=
  ∀ p : Port, (s.queue p).length ≤ Config.queueDepth ∧ numbered (s.queue p) (s.seqNo p)

/-- The held slot of a context: filled exactly in HELD, with a record naming the context and its owner (R11). -/
abbrev Context.heldOk (c : Context) (u : UnitAddr) : Prop :=
  (c.heldRecord.isSome ↔ c.state = .held) ∧
    ∀ r ∈ c.heldRecord, r.unit = u ∧ c.owner = some r.owner

/-- An order that has reached the link: its context is SELECTING, CONNECTED or DISCONNECTED (R12). -/
abbrev Context.onLink (c : Context) : Prop := c.state = .selecting ∨ c.state = .connected ∨ c.state = .disconnected

/-- A context agrees with its state: an owner exactly when it is not IDLE (R2), nothing kept in IDLE (R10), a descriptor
exactly in an order in progress (R3), a record exactly in HELD (R11), a segment or a discard flag only from the selection on,
the flag with a halt request (R3, R13), and a silence timer only in DISCONNECTED (R9). -/
abbrev Context.agrees (c : Context) (u : UnitAddr) : Prop :=
  (c.owner = none ↔ c.state = .idle) ∧
    (c.state = .idle → c = {}) ∧
    (c.desc.isSome ↔ c.inProgress = true) ∧
    c.heldOk u ∧
    (c.seg ≠ none → c.onLink) ∧
    (c.discard = true → c.halt ≠ none ∧ c.onLink) ∧
    (c.silence.runs = true → c.state = .disconnected)

/-- Every context agrees with its state, and the lists hold exactly the contexts they should, each once: the select queue the
QUEUED ones (R14), the stop queue the DISCONNECTED ones with a halt request (R12, R15), a held list its port's HELD ones
(R11, R122); while the part is not READY every context is IDLE (R21), and a load attempt runs only in LOADING (R157). -/
def State.contextsOk (s : State) : Prop :=
  (∀ u : UnitAddr, (s.ctx u).agrees u) ∧
    s.ctb.selectQ.Nodup ∧ (∀ u, u ∈ s.ctb.selectQ ↔ (s.ctx u).state = .queued) ∧
    s.ctb.stopQ.Nodup ∧ (∀ u, u ∈ s.ctb.stopQ ↔ (s.ctx u).state = .disconnected ∧ (s.ctx u).halt ≠ none) ∧
    (∀ u, u ∈ s.ctb.stopQ ↔ (s.ctx u).stopQueued = true) ∧
    (∀ p : Port, (s.heldList p).Nodup ∧
      ∀ u, u ∈ s.heldList p ↔ (s.ctx u).state = .held ∧ (s.ctx u).owner = some p) ∧
    (s.dsc.part ≠ .ready → ∀ u, (s.ctx u).state = .idle) ∧
    (s.dsc.load = .first ∨ s.dsc.load = .second → s.dsc.part = .loading)

/-- No unit is twice on the deferred list (R126), and a held list that is not empty means 16 records in its queue (R117). -/
abbrev State.listsOk (s : State) : Prop :=
  s.rcm.deferred.Nodup ∧ ∀ p : Port, s.heldList p ≠ [] → (s.queue p).length = 16

/-- The exchange of a connection of this unit is in flight, opened by a POLL (R71, R97). -/
abbrev State.polledExchange (s : State) (u : UnitAddr) : Prop :=
  s.lnk.link = .exchange ∧ s.lnk.conn = none ∧
    ∃ e ∈ s.lnk.exchange, e.unit = some u ∧ e.opener = some .poll ∧
      (e.kind = .dataIn ∨ e.kind = .dataOut ∨ e.kind = .status)

/-- A selection or halt selection of this unit is in flight, its SEL not yet answered (R6). -/
abbrev State.selectionInFlight (s : State) (u : UnitAddr) : Prop :=
  s.lnk.link = .exchange ∧ s.lnk.conn = none ∧
    ∃ e ∈ s.lnk.exchange, e.unit = some u ∧ (e.kind = .selection ∨ e.kind = .haltSelection) ∧
      e.frame.callsForReply = true ∧ e.more = []

/-- LNK listens, a timer of R72 or R79 running or a frame it waited for being received, only in HOLD or in an exchange whose frame
calls for a reply; the timers stand while that frame is received, and what follows a frame in its exchange calls for no reply,
nor does a frame that another follows (R72, R79, R85). -/
abbrev State.listensOk (s : State) : Prop :=
  (s.lnk.replyTimer.runs = true ∨ s.lnk.gapTimer.runs = true ∨ s.lnk.reception = .awaited →
      s.lnk.link = .hold ∨ ∃ e ∈ s.lnk.exchange, e.frame.callsForReply = true) ∧
    (s.lnk.reception = .awaited → s.lnk.replyTimer.runs = false ∧ s.lnk.gapTimer.runs = false) ∧
    (∀ e ∈ s.lnk.exchange, (∀ f ∈ e.more, f.callsForReply = false) ∧
      (e.more ≠ [] → e.frame.callsForReply = false))

/-- The link serves the contexts in SELECTING and CONNECTED and no other: a SELECTING context has its selection in flight, and a
selection in flight has its unit's context in SELECTING; a CONNECTED context has the LONG connection or the exchange a POLL
opened, and a LONG connection holds the link in HOLD or in an exchange of its own unit (R6, R7, R70, R79). An exchange exists
exactly in EXCHANGE (R70), LNK listens only where it waits for a frame, and a reset in progress holds DSC and LNK at their
reset values (R153). -/
def State.linkOk (s : State) : Prop :=
  (∀ u, (s.ctx u).state = .selecting → s.selectionInFlight u) ∧
    (∀ e ∈ s.lnk.exchange, e.kind = .selection ∨ e.kind = .haltSelection → e.frame.callsForReply = true →
      ∃ u ∈ e.unit, (s.ctx u).state = .selecting) ∧
    (∀ u, (s.ctx u).state = .connected → s.lnk.conn = some u ∨ s.polledExchange u) ∧
    (∀ u, s.lnk.conn = some u → (s.ctx u).state = .connected ∧
      (s.lnk.link = .hold ∨ (s.lnk.link = .exchange ∧ ∃ e ∈ s.lnk.exchange, e.unit = some u ∧
        (e.kind = .dataIn ∨ e.kind = .dataOut ∨ e.kind = .status ∨ e.kind = .request)))) ∧
    (s.lnk.exchange.isSome ↔ s.lnk.link = .exchange) ∧ s.listensOk ∧
    (s.dsc.phase ≠ .none → s.dsc.part = .loading ∧ s.dsc.load = .none ∧ s.lnk.link = .inBreak ∧
      s.lnk.linkTimer = .stopped)

/-- The data area of a descriptor lies within one page (R23, R26 check 6); a CTRL or JUMP has none. -/
abbrev Descriptor.areaFits (d : Descriptor) : Prop :=
  d.kind = .ctrl ∨ d.kind = .jump ∨
    (d.addr.toNat ≤ 0x7FFF ∧ 1 ≤ d.count.toNat ∧ d.addr.toNat % 512 + d.count.toNat ≤ 512)

/-- The bytes a segment has still to move lie within its page (R57). -/
abbrev Segment.fits (g : Segment) : Prop :=
  g.page.val * 512 ≤ g.addr.toNat ∧ g.addr.toNat + g.remaining ≤ (g.page.val + 1) * 512

/-- No data move can leave the page of its segment: every current segment fits in its page, every descriptor that can supply the
next one has its area in one page, and a DAT in flight is no longer than what its segment has left (R23, R40, R57); frames
still to send and frames remembered are no DATs (R83, R85). -/
def State.segmentsOk (s : State) : Prop :=
  (∀ u, ∀ g ∈ (s.ctx u).seg, g.fits) ∧
    (∀ u, ∀ d ∈ (s.ctx u).desc, d.areaFits) ∧
    (∀ u d a, (s.ctx u).lookahead = .present d a → d.kind = .seg ∧ d.areaFits) ∧
    (∀ e ∈ s.lnk.exchange, ∀ u ∈ e.unit, ∀ g ∈ (s.ctx u).seg, e.datLength ≤ g.remaining) ∧
    (∀ e ∈ s.lnk.exchange, ∀ f ∈ e.more, f.callsForReply = false) ∧
    (∀ u, ∀ x ∈ s.answer u, x.frame.callsForReply = false)

/-- The ports' leases: the lapse count is at most 255 (R135), a LAPSED port's lease timer is stopped (R136, R138), and until
the end of start-up both ports are ACTIVE with their lease timers stopped (R137). -/
def State.leasesOk (s : State) : Prop :=
  ∀ p : Port, (s.port p).lapseCount ≤ Config.maxLapses ∧ ((s.port p).state = .lapsed → (s.port p).lease = .stopped) ∧
    (s.dsc.part = .loading → (s.port p).state = .active ∧ (s.port p).lease = .stopped)

/-! ### What the statements speak of -/

/-- What a part-level reset leaves of any state, by its cause (R153): the store is cleared, and the lapse counts zeroed, by
power-on alone; the straps stay as captured. -/
def heldAtReset (cause : ResetCause) (s t : State) : Prop :=
  (∀ p, (t.port p).state = .active ∧ (t.port p).leasePeriod = 100 ∧ (t.port p).lease = .stopped ∧
      (t.port p).lapseCount = (if cause = .powerOn then 0 else (s.port p).lapseCount) ∧ (t.port p).adoptedAway = 0 ∧
      (t.port p).stamp = .void ∧ (t.port p).noticeLost = false ∧ (t.port p).chipSelect = (s.port p).chipSelect) ∧
    t.rcm = Rcm.reset ∧ t.ctb = Ctb.reset ∧ t.str.pages = pagesReset ∧
    (∀ a, t.byteAt a = if cause = .powerOn then 0 else s.byteAt a) ∧
    t.lnk.link = .inBreak ∧ t.lnk.exchange = none ∧ t.lnk.conn = none ∧ t.lnk.replyTimer = .stopped ∧
    t.lnk.gapTimer = .stopped ∧ t.lnk.srqSampled = false ∧ t.lnk.grantMem = none ∧ (∀ u, t.answer u = none) ∧
    t.dsc.part = .loading ∧ t.dsc.active = none ∧ t.dsc.staging = Vector.replicate 32 none ∧ t.dsc.cause = cause ∧
    t.dsc.load = .none ∧ t.dsc.agreed = none

/-- Start-up from a state: BREAK for 1 ms, every receiver UNSELECTED or IGNORING by its chip select (R154, R181). -/
def startsUp (s t : State) : Prop :=
  t.lnk.link = .inBreak ∧ t.lnk.linkTimer = .running 1000 ∧ t.dsc.phase = .none ∧
    (∀ p, (t.port p).receiver =
      { state := if (s.port p).chipSelect then .ignoring else .unselected, bytes := [], count := 0, response := none })

/-- What the part drives while a reset is in progress: nothing on the ports, the link pair's driver off, CFG_CS high, CFG_SCK low
(R187). -/
def quiet (t : State) : Prop :=
  (∀ p, t.output p = none) ∧ t.linkPair = .driverOff ∧ t.cfgSelected = false ∧ t.cfgSends = [] ∧ t.cfgClockHeldLow = true

/-- A queue with room, for a record that comes from outside it (R117). -/
abbrev roomIn (s : State) (p : Port) : Prop := (s.queue p).length < 16 ∧ s.heldList p = []

/-- A notice offered to the queue of a port, from state `s` to state `t`: placed at the tail with the queue's next sequence
number when there is room, else lost with NOTICE_LOST set (R116, R117, R132). -/
def noticeOffered (p : Port) (code : NoticeCode) (arg : Option Nat) (s t : State) : Prop :=
  (roomIn s p → t.queue p = s.queue p ++ [{ seq := s.seqNo p, body := .notice code arg }] ∧
      t.seqNo p = s.seqNo p + 1 ∧ (t.port p).noticeLost = (s.port p).noticeLost) ∧
    (¬ roomIn s p → t.queue p = s.queue p ∧ t.seqNo p = s.seqNo p ∧ (t.port p).noticeLost = true)

/-- Nothing but the ports and the completion queues differs, and the held lists and the deferred list are as they were. -/
def sameButPortsAndQueues (s t : State) : Prop :=
  t.ctb = s.ctb ∧ t.lnk = s.lnk ∧ t.str = s.str ∧ t.rcm.heldLists = s.rcm.heldLists ∧
    t.rcm.deferred = s.rcm.deferred ∧ t.pending = s.pending

/-- The receiver of a port with so many bytes counted and this state. -/
def receiverAt (x : Receiver) (count : Nat) (st : ReceiverState) : Receiver := { x with count := count, state := st }

/-- The removal of the head of queue `x`, whose rest is `rest`, with the refill of R120: the head of the held list enters the
queue with the next sequence number and its context goes to IDLE. -/
def removalOf (x : Port) (rest : List Record) (b t : State) : Prop :=
  (b.heldList x = [] → t = b.setQueue x rest) ∧
    (∀ u us c, b.heldList x = u :: us → (b.ctx u).heldRecord = some c → (b.ctx u).seg = none →
      t = ((((b.setQueue x (rest ++ [{ seq := b.seqNo x, body := .completion c }])).setSeqNo x (b.seqNo x + 1)).setHeldList
        x us).modCtx u (fun _ => {})))

/-- The page entries of `v` are those of `b`, but that every page of the range has the tag `tag`. -/
def retagged (first number : Byte) (tag : Tag) (b : State) (v : Vector PageEntry 64) : Prop :=
  ∀ q : PageNo, (inRange first number q → v[q.val] = { tag := tag, uses := (b.page q).uses }) ∧
    (¬ inRange first number q → v[q.val] = b.page q)

/-- The page of a program address is open to the issuing port (R16). -/
abbrev programOpen (b : State) (p : Port) (addr : Word) : Prop := b.pageOpen p (pageOf addr) = true

/-- The exchange a grant opens, its first frame being sent (R71). -/
def opened (g : GrantKind) (k : ExKind) (u : Option UnitAddr) (f : CtlFrame) : Exchange :=
  { kind := k, unit := u, frame := f, tries := 1, corrupt := false, opener := some g, sending := true, more := [] }

/-- LNK after a grant: in EXCHANGE, both reply timers stopped, the grant memory holding its kind (R70, R88). -/
def granted (e : Exchange) (g : GrantKind) (l : Lnk) : Lnk :=
  { l with link := .exchange, exchange := some e, replyTimer := .stopped, gapTimer := .stopped, grantMem := some g }

/-- `s` with the answer memory entry of a unit emptied (R83). -/
def forgets (u : UnitAddr) (s : State) : State := s.setAnswer u none

/-- A unit has a target port whose queue has room for an ATTENTION record (R124, R127). -/
abbrev recallable (s : State) (u : UnitAddr) : Prop := ∃ p, s.target u = some p ∧ roomIn s p

/-- SRQ is sampled asserted, and the last grant was not a poll while a selection waits (R89 row 3, R90). -/
abbrev pollWanted (s : State) : Prop :=
  s.lnk.srqSampled = true ∧ ¬ (s.lnk.grantMem = some .poll ∧ s.ctb.selectQ ≠ [])

/-- What the end of an order leaves alone, its context's leaving the queues of CTB, and the use its segment's page loses (R10, R14,
R15, R32). -/
def endFrame (u : UnitAddr) (s t : State) : Prop :=
  (∀ v, v ≠ u → t.ctx v = s.ctx v) ∧ t.rcm.deferred = s.rcm.deferred ∧ t.ports = s.ports ∧ t.dsc = s.dsc ∧
    t.str.store = s.str.store ∧
    (∀ q, t.page q = { s.page q with uses := (s.page q).uses - if (s.ctx u).segIn q then 1 else 0 }) ∧
    t.ctb.selectQ = s.ctb.selectQ.filter (fun v => v ≠ u) ∧ t.ctb.stopQ = s.ctb.stopQ.filter (fun v => v ≠ u) ∧
    t.pending = s.pending

/-- An ended order whose context has no discard flag and whose owner's queue has room: its record is placed at the tail with the
next sequence number, and its context goes to IDLE (R10, R116, R117). -/
def endedPlaced (u : UnitAddr) (p : Port) (r : Completion) (s t : State) : Prop :=
  t.queue p = s.queue p ++ [{ seq := s.seqNo p, body := .completion r }] ∧ t.seqNo p = s.seqNo p + 1 ∧ t.ctx u = {} ∧
    t.queue p.peer = s.queue p.peer ∧ t.seqNo p.peer = s.seqNo p.peer ∧ t.rcm.heldLists = s.rcm.heldLists ∧ endFrame u s t

/-- An ended order whose discard record flag is set: its record is dropped and its context goes to IDLE (R10, R13, R103). -/
def endedDropped (u : UnitAddr) (s t : State) : Prop :=
  t.ctx u = {} ∧ t.rcm = s.rcm ∧ endFrame u s t

/-- An ended order whose owner's queue has no room: its record is held, its context enters HELD and joins the tail of the held list
(R10, R11, R117). -/
def endedHeld (u : UnitAddr) (p : Port) (r : Completion) (s t : State) : Prop :=
  t.ctx u = { s.ctx u with
      state := .held, heldRecord := some r, conds := r.conds, unitStatus := r.status, desc := none, seg := none,
      lookahead := .absent, halt := none, stopQueued := false, silence := .stopped, jumps := (t.ctx u).jumps } ∧
    (∀ x, t.heldList x = if x = p then s.heldList p ++ [u] else s.heldList x) ∧ t.rcm.queues = s.rcm.queues ∧
    t.rcm.seqs = s.rcm.seqs ∧ endFrame u s t

/-- An order has ended with this record: dropped, placed or held (R10). -/
def ended (u : UnitAddr) (p : Port) (r : Completion) (s t : State) : Prop :=
  ((s.ctx u).discard = true → endedDropped u s t) ∧
    ((s.ctx u).discard = false → roomIn s p → endedPlaced u p r s t) ∧
    ((s.ctx u).discard = false → ¬ roomIn s p → endedHeld u p r s t)

/-- The conditions of a record composed from a context that has so far gained `x`: the halt cause's, those of an adopted context
and of a missed milestone are added (R12, R44, R101). -/
def closedWith (c : Context) (x : Conds) : Conds :=
  { x with
    halted := x.halted || c.adopted ||
      decide (c.halt = some .halt ∨ c.halt = some .adopt ∨ c.halt = some .portReset),
    timeout := x.timeout || decide (c.halt = some .timeout),
    adopted := x.adopted || c.adopted,
    milestoneMissed := x.milestoneMissed || c.milestoneMissed }

/-- The residual of an order whose ending status is taken: what its segment has left; without a segment the count of an IN or OUT
descriptor, and 0 for a CTRL (R42). -/
def leftOver (c : Context) (d : Descriptor) : Nat :=
  match c.seg with
  | some g => g.remaining
  | none => if d.kind = .input ∨ d.kind = .output then d.count.toNat else 0

/-- The conditions of a context once the length check at its ending status has been made (R43). -/
def lengthChecked (c : Context) (d : Descriptor) : Conds :=
  { c.conds with length := c.conds.length || (decide (leftOver c d ≠ 0) && !d.lengthOk) }

/-- An ending status that does not continue a chain (R10, R45). -/
abbrev endsChain (c : Context) (d : Descriptor) (st : Byte) : Prop :=
  d.link ≠ .nextOrder ∨ lengthChecked c d ≠ {} ∨ st.toNat % 32 ≠ 1 ∨ c.halt ≠ none

/-- A descriptor's MILESTONE, if it carries one, offered to its owner's queue: placed when there is room, else missed (R33, R130). -/
def milestoneOffered (carries : Bool) (u : UnitAddr) (p : Port) (addr : Word) (s t : State) : Prop :=
  (carries = true → roomIn s p → t.queue p = s.queue p ++ [{ seq := s.seqNo p, body := .milestone u addr }] ∧
      t.seqNo p = s.seqNo p + 1 ∧ (t.ctx u).milestoneMissed = (s.ctx u).milestoneMissed) ∧
    (carries = true → ¬ roomIn s p → t.queue p = s.queue p ∧ t.seqNo p = s.seqNo p ∧
      (t.ctx u).milestoneMissed = true) ∧
    (carries = false → t.queue p = s.queue p ∧ t.seqNo p = s.seqNo p ∧
      (t.ctx u).milestoneMissed = (s.ctx u).milestoneMissed) ∧
    t.queue p.peer = s.queue p.peer ∧ t.seqNo p.peer = s.seqNo p.peer ∧ t.rcm.heldLists = s.rcm.heldLists ∧
    t.rcm.deferred = s.rcm.deferred

/-- The frame's address byte names a unit (R64). -/
abbrev names (addr : Byte) (u : UnitAddr) : Prop := addr.toNat = u.val

/-- LNK sends the answer to a REQ of a LONG connection and keeps it in the answer memory (R80, R82, R83). -/
def answering (k : ExKind) (a : AnsweredKind) (u : UnitAddr) (f : CtlFrame) (s t : State) : Prop :=
  t.lnk.link = .exchange ∧ t.lnk.replyTimer = .stopped ∧ t.lnk.gapTimer = .stopped ∧ t.lnk.reception = .none ∧
    (∃ e, t.lnk.exchange = some e ∧ e.kind = k ∧ e.unit = some u ∧ e.frame = f ∧ e.sending = true ∧ e.more = []) ∧
    t.answer u = some { kind := a, frame := f } ∧ (∀ v, v ≠ u → t.answer v = s.answer v) ∧
    t.lnk.grantMem = s.lnk.grantMem ∧ t.lnk.linkTimer = s.lnk.linkTimer ∧ t.lnk.srqLine = s.lnk.srqLine ∧
    t.lnk.srqSampled = s.lnk.srqSampled

/-- The byte at a store address once bytes have been put from an address on, unless DISCARD is set; the old byte where they do
not reach (R36, R39, R55). -/
def placedAt (discard : Bool) (addr : Word) (data : List Byte) (a : StoreAddr) (old : Byte) : Byte :=
  if discard = false ∧ addr.toNat ≤ a.toNat ∧ a.toNat < addr.toNat + data.length then data.getD (a.toNat - addr.toNat) 0
  else old

/-- The context of a unit LNK hears, once CTB has taken the REQ: a DISCONNECTED one is CONNECTED, its silence timer stopped, and it
has left the stop queue (R97 step 1). -/
def State.served (s : State) (u : UnitAddr) : State :=
  if (s.ctx u).state = .disconnected then
    (s.modStopQ (fun l => l.filter (fun v => v ≠ u))).modCtx u (fun x =>
      { x with state := .connected, silence := .stopped, stopQueued := false })
  else s

/-- What CTB forms its answer to a data REQ from: the context taken up, and the first segment of an IN or OUT order made current if
there is none and no check for one has failed. Its page is checked and counted and the lookahead trigger tested; a failed check
is STORE_FAULT with a halt request (R31, R34, R97 steps 1 and 2). -/
def State.begun (s : State) (u : UnitAddr) : State :=
  let b := s.served u
  let c := b.ctx u
  match c.desc with
  | none => b
  | some d =>
    if c.seg = none ∧ c.conds.storeFault = false ∧ (d.kind = .input ∨ d.kind = .output) then
      if ∃ p ∈ c.owner, b.pageOpen p (pageOf d.addr) = true then
        let r := (b.modPage (pageOf d.addr) (fun x => { x with uses := x.uses + 1 })).modCtx u (fun x =>
          { x with seg := some { addr := d.addr, remaining := d.count.toNat, page := pageOf d.addr } })
        match c.owner with
        | none => r
        | some p =>
          if d.kind = .input ∧ d.link = .nextSegment ∧ c.lookahead = .absent ∧ c.halt = none ∧ d.count.toNat ≤ 16 then
            let f := fetch (.segment .input) p r c.nextDesc
            r.modCtx u (fun x =>
              { x with jumps := f.jumps,
                       lookahead := (match f.found with | some (y, a) => .present y a | none => .faulted) })
          else r
      else b.modCtx u (fun x =>
        { x with conds := { x.conds with storeFault := true }, halt := some (x.halt.getD .storeFault) })
    else b

/-- LNK sends this frame to a unit, with no other frame after it and both timers stopped (R71, R72). -/
def sendsTo (u : UnitAddr) (f : CtlFrame) (t : State) : Prop :=
  t.lnk.link = .exchange ∧ t.lnk.replyTimer = .stopped ∧ t.lnk.gapTimer = .stopped ∧
    ∃ e ∈ t.lnk.exchange, e.unit = some u ∧ e.frame = f ∧ e.sending = true ∧ e.more = []

/-- An exchange that a REQ after a POLL has begun keeps the poll as its opener, so that its end is the end of a SHORT-mode exchange
(R71, R97). -/
def viaPoll (s t : State) : Prop := s.lnk.conn = none → ∃ e ∈ t.lnk.exchange, e.opener = some .poll

/-- LNK abandons a unit's order: STP in the abandon form is sent to it, no LONG connection holds the link, and this is the unit's
answer memory entry (R73, R79, R83, R84). While the STP is sent the link is in EXCHANGE (log 7). -/
def abandons (u : UnitAddr) (entry : Option Answer) (t : State) : Prop :=
  sendsTo u (.stp .abandon u) t ∧ t.lnk.conn = none ∧ t.answer u = entry

/-- The answer memory entry a frame sent in answer to a REQ leaves (R83). -/
def keptAnswer (body : ReqBody) (f : CtlFrame) : Option Answer :=
  match body with
  | .inData _ => some { kind := .inData, frame := f }
  | .status _ => some { kind := .status, frame := f }
  | .outData => none

/-- The answer memory entry that STP in the abandon form leaves at unit `u` when frame `f` has failed its exchange: that of the REQ
where `f` is one of the unit's, else STATUS (R83, log 9). -/
def failureEntry (u : UnitAddr) (f : UnitFrame) : Option Answer :=
  match f with
  | .req v _ body =>
    if v = u then keptAnswer body (.stp .abandon u) else some { kind := .status, frame := .stp .abandon u }
  | _ => some { kind := .status, frame := .stp .abandon u }

/-- A try of the exchange in flight fails by this row: no reply, a corrupt reply, or for a DAT a NAK (R73). -/
abbrev failsTry (c : Instr) (e : Exchange) (s : State) : Prop :=
  (c = .replyTimerExpiry ∧ s.lnk.exchange = some e ∧ s.lnk.replyTimer.runs = true) ∨
    (s.awaitsReply e ∧ (c = .corruptFrame ∨ ∃ u ∈ e.unit, ∃ addr, e.kind = .dataOut ∧ c = .nak addr ∧ names addr u))

/-- The silence timer of a context that enters or stays in DISCONNECTED, started with its unit's full limit; a limit of 0 starts
none (R9). -/
def fullSilence (s : State) (u : UnitAddr) : Timer :=
  match s.entry u with
  | none => .stopped
  | some x => if x.silence = 0 then .stopped else .running (x.silence.toNat * 10000)

/-- The end of an exchange that found its unit's context DISCONNECTED and stopped its silence timer: the timer starts again (R108). -/
def silenceRestarted (u : UnitAddr) (s : State) : State :=
  if (s.ctx u).state = .disconnected then s.modCtx u (fun x => { x with silence := fullSilence s u }) else s

/-- The end of a SHORT-mode exchange that did not end the order: DISCONNECTED again with a fresh silence timer, on the stop queue if a
halt request is set (R7, R9, R15, R97 step 4). -/
def shortOver (u : UnitAddr) (s : State) : State :=
  let halted := (s.ctx u).halt ≠ none
  (s.modStopQ (fun l => if halted then l ++ [u] else l)).modCtx u (fun x =>
    { x with state := .disconnected, stopQueued := decide halted, silence := fullSilence s u })

/-- The record of an order that LINK_RESET ends (R111). -/
def linkResetRecord (u : UnitAddr) (p : Port) (c : Context) : Completion :=
  { unit := u, owner := p, lastDesc := c.descAddr.getD 0, resume := c.descAddr.getD 0 + 8,
    residual := (match c.seg with | some g => g.remaining | none => 0),
    conds := closedWith c { c.conds with linkReset := true }, status := none }

/-- The orders of these contexts are ended by LINK_RESET one after another (R111). -/
def endedInTurn : List UnitAddr → State → State → Prop
  | [], s, t => t = s
  | u :: us, s, t =>
    ∃ p m, (s.ctx u).owner = some p ∧ ended u p (linkResetRecord u p (s.ctx u)) s m ∧ m.lnk = s.lnk ∧ endedInTurn us m t

/-! ### Descriptors and the directory image -/

/-- A JUMP that passes its checks stands at address `a` in a page open to port `p`, with target `b` (R25, R26 checks 1 to 3). -/
def jumpAt (p : Port) (s : State) (a b : Nat) : Prop :=
  a % 8 = 0 ∧ a ≤ 0x7FF8 ∧ s.pageOpen p (pageOf (BitVec.ofNat 16 a)) = true ∧
    (s.descriptorAt (BitVec.ofNat 16 a)).kind = some .jump ∧ (s.descriptorAt (BitVec.ofNat 16 a)).addr.toNat = b ∧
    b % 8 = 0 ∧ b ≤ 0x7FF8

/-- `n` JUMPs lead from address `a` to address `b` (R27). -/
def jumpsLead (p : Port) (s : State) : Nat → Nat → Nat → Prop
  | 0, a, b => a = b
  | n + 1, a, b => ∃ t, jumpAt p s a t ∧ jumpsLead p s n t b

/-- The descriptor `d` stands at address `a` and passes checks 1 to 7 of R26 for a fetch of this purpose by port `p`: its page is
open; its kind suits the purpose; its order code, link, data area and DISCARD flag are in their ranges (R26, 11.3). -/
def passesAt (purpose : FetchFor) (p : Port) (s : State) (d : Descriptor) (a : Nat) : Prop :=
  let r := s.descriptorAt (BitVec.ofNat 16 a)
  a % 8 = 0 ∧ a ≤ 0x7FF8 ∧ s.pageOpen p (pageOf (BitVec.ofNat 16 a)) = true ∧
    r.kind = some d.kind ∧ r.code = d.code ∧ r.link = some d.link ∧ r.discard = d.discard ∧ r.lengthOk = d.lengthOk ∧
    r.milestone = d.milestone ∧ r.addr = d.addr ∧ r.count = d.count ∧
    (purpose = .order → d.kind = .input ∨ d.kind = .output ∨ d.kind = .ctrl) ∧
    (∀ k, purpose = .segment k → d.kind = .seg) ∧
    (d.kind ≠ .seg → 1 ≤ d.code.toNat ∧ d.code.toNat ≤ 0xFE) ∧
    ¬ (d.kind = .ctrl ∧ d.link = .nextSegment) ∧
    (d.kind ≠ .ctrl → d.addr.toNat ≤ 0x7FFF ∧ 1 ≤ d.count.toNat ∧ d.count.toNat ≤ 512 ∧
      d.addr.toNat % 512 + d.count.toNat ≤ 512) ∧
    (d.discard = true → d.kind = .input ∨ (d.kind = .seg ∧ purpose = .segment .input))

/-- The bytes of a directory image without its CRC-16: signature "TCNd", format version 1, entry count, lease period, and four bytes
for each entry (11.5). -/
def imageBody (d : Directory) : List Byte :=
  [0x54, 0x43, 0x4E, 0x64, 1, BitVec.ofNat 8 d.entries.length, d.lease] ++
    d.entries.flatMap (fun e =>
      [BitVec.ofNat 8 e.unit.val, if e.mode = .long then 1 else 0, if e.home = .b then 1 else 0, e.silence])

/-- A directory a valid image can give: at most 32 entries, no unit twice, a lease period of 1 to 255 (R156 checks 3, 4, 7). -/
def validDirectory (d : Directory) : Prop :=
  d.entries.length ≤ 32 ∧ (d.entries.map DirEntry.unit).Nodup ∧ d.lease ≠ 0

/-- A good frame of a unit: addresses are unit addresses by type; an IN_DATA carries 1 to 16 bytes (R64). -/
def goodUnitFrame : UnitFrame → Prop
  | .req _ _ (.inData bs) => 1 ≤ bs.length ∧ bs.length ≤ 16
  | .corrupt => False
  | _ => True

end Sys2Proof.Machine
end

