-- ==== Sys2Proof/Certificates/Slice0/Obligations.lean ====
section
/-! DEFINITION. The statements for the provers, by the rules of spec/: the machine, resets and start-up, port frames, the port
commands, the port events, the unit link, encodings and invariants. -/

open Sys2Proof Sys2Proof.Machine

/-! ### The machine -/

/-- A step takes the command at the front of the queue: it is `exec` of it on the state with the queue's rest. With no
command waiting a step leaves everything as it is (the model's choice, log 2). -/
def Obligations.AStepRunsTheCommandAtTheFront : Prop :=
  (∀ (c : Instr) (rest : List Instr) (s : State),
    s.pending = c :: rest → step s = exec c { s with pending := rest }) ∧
  (∀ s : State, s.pending = [] → step s = .next s)

/-- Every command answers a next state, in every state and for all operands, and leaves the queue alone: the part stops
nowhere. -/
def Obligations.EveryCommandAnswersNextAndKeepsTheQueue : Prop :=
  ∀ (c : Instr) (s : State), ∃ t, exec c s = .next t ∧ t.pending = s.pending

/-! ### Resets and start-up -/

/-- The state after reset holds the power-on values of R153's table and of the rules it names (R21, R46, R61, R70, R88, R134,
R135, R150, R151), with start-up's link-reset condition begun (R154). -/
def Obligations.ResetHoldsThePowerOnValues : Prop :=
  let s := State.reset
  (∀ p, (s.port p).state = .active ∧ (s.port p).leasePeriod = 100 ∧ (s.port p).lease = .stopped ∧
      (s.port p).lapseCount = 0 ∧ (s.port p).adoptedAway = 0 ∧ (s.port p).stamp = .void ∧
      (s.port p).noticeLost = false ∧ s.queue p = [] ∧ s.seqNo p = 0 ∧ s.heldList p = [] ∧ s.atn p = false) ∧
    (∀ u, s.ctx u = {} ∧ s.answer u = none) ∧ s.ctb.selectQ = [] ∧ s.ctb.stopQ = [] ∧ s.rcm.deferred = [] ∧
    (∀ a, s.byteAt a = 0) ∧ (∀ q, s.page q = { tag := .free, uses := 0 }) ∧
    s.lnk.link = .inBreak ∧ s.lnk.linkTimer = .running 1000 ∧ s.lnk.exchange = none ∧ s.lnk.conn = none ∧
    s.lnk.replyTimer = .stopped ∧ s.lnk.gapTimer = .stopped ∧ s.lnk.srqSampled = false ∧ s.lnk.grantMem = none ∧
    s.dsc.part = .loading ∧ s.dsc.active = none ∧ (∀ i : Fin 32, s.dsc.staging[i.val] = none) ∧
    s.dsc.cause = .powerOn ∧ s.dsc.load = .none ∧ s.dsc.agreed = none

/-- POWER_ON and RESET_ASSERT hold every block at its reset values (R153). While a reset is in progress nothing is sent or
driven: the link pair's driver is off, CFG_CS is high and CFG_SCK low (R187). The reset ends: at the end of power-on when
RESET is released by then, otherwise at its release; the straps are captured and start-up begins with the pair in break
(R86, R152 to R154, R187). The model's own: that RESET asserted while a reset lasts changes only its level, and that the level
of chip select stays with the pin (log 15); that the straps keep what was captured before while the reset lasts (logs 15
and 25). -/
def Obligations.PowerOnAndTheResetPinResetThePart : Prop :=
  ((∀ s : State, ∃ t, exec .powerOn s = .next t ∧ heldAtReset .powerOn s t ∧ t.dsc.phase = .powerOn ∧
      t.dsc.straps = s.dsc.straps ∧ ∀ p, t.atn p = false) ∧
    (∀ s : State, s.dsc.phase = .none → ∃ t, exec .resetAssert s = .next t ∧ heldAtReset .pin s t ∧
      t.dsc.phase = .held ∧ t.dsc.straps = s.dsc.straps ∧ ∀ p, t.atn p = false) ∧
    (∀ s : State, s.dsc.phase ≠ .none →
      exec .resetAssert s = .next { s with dsc := { s.dsc with resetPin := true } }) ∧
    (∀ s : State, s.dsc.phase ≠ .none → quiet s)) ∧
  ((∀ (s : State) (x : Straps), s.dsc.phase = .powerOn → s.dsc.resetPin = false →
      ∃ t, exec (.powerOnEnd x) s = .next t ∧ startsUp s t ∧ t.dsc.straps = x ∧ t.str = s.str ∧ t.rcm = s.rcm ∧
        t.ctb = s.ctb ∧ t.linkPair = .broken) ∧
    (∀ (s : State) (x : Straps), s.dsc.phase = .powerOn → s.dsc.resetPin = true →
      exec (.powerOnEnd x) s = .next { s with dsc := { s.dsc with phase := .held } }) ∧
    (∀ (s : State) (x : Straps), s.dsc.phase = .held →
      ∃ t, exec (.resetRelease x) s = .next t ∧ startsUp s t ∧ t.dsc.straps = x ∧ t.dsc.resetPin = false ∧
        t.str = s.str ∧ t.rcm = s.rcm ∧ t.ctb = s.ctb ∧ t.linkPair = .broken))

/-- The agreed part reset takes the reset values with cause PART, keeps the straps and starts up at once (R153, R166, R181). It
is taken by its own row, by the last byte of the OK response, and by chip select falling on the port that asked, which does
the same with that chip select low. That the table's row does it a second time beside those two is the model's (log 12). -/
def Obligations.TheAgreedResetIsTakenWithCausePart : Prop :=
  (∀ s : State, s.dsc.agreed ≠ none →
      ∃ t, exec .agreedResetTaken s = .next t ∧ heldAtReset .part s t ∧ startsUp s t ∧ t.dsc.straps = s.dsc.straps ∧
        t.pending = s.pending) ∧
  (∀ (s : State) (p : Port), s.dsc.agreed = some p → s.dsc.phase = .none →
    exec (.chipSelectDeassert p) s = exec .agreedResetTaken (s.modPort p (fun x => { x with chipSelect := false })) ∧
      (∀ b, (s.port p).receiver.state = .responding →
        (s.port p).receiver.count + 1 = (s.port p).receiver.bytes.length + 2 + (s.port p).receiver.responseLength →
        exec (.byteTaken p b) s = exec .agreedResetTaken s))

/-- The link-reset timer: BREAK ends in SETTLE with 5 ms, SETTLE ends in OPEN with SRQ sampled (R86, R68). The end of
the start-up settle time: with CFG_SRC port load the part is UNCONFIGURED and the leases start with 1000 ms; with
CFG_SRC memory the first load attempt begins (R154), in which CFG_CS is asserted and DSC sends 03h and two zero bytes
(R155). The sampled SRQ level follows the line, but not in BREAK and SETTLE (R68, R86). LNK holds the pair in break in
BREAK and its driver is off in SETTLE, OPEN and HOLD (R70, R86). -/
def Obligations.TheLinkResetTimerLeadsToOpenAndThroughStartUp : Prop :=
  ((∀ s : State, s.lnk.link = .inBreak → s.lnk.linkTimer.runs = true →
      exec .breakEnd s = .next { s with lnk := { s.lnk with link := .settle, linkTimer := .running 5000 } }) ∧
    (∀ s : State, s.lnk.link = .settle → s.lnk.linkTimer.runs = true → s.dsc.part ≠ .loading →
      exec .settleEnd s =
        .next { s with lnk := { s.lnk with link := .opened, linkTimer := .stopped, srqSampled := s.lnk.srqLine } })) ∧
  (∀ s : State, s.lnk.link = .settle → s.lnk.linkTimer.runs = true → s.dsc.part = .loading → s.dsc.load = .none →
    let l := { s.lnk with link := .opened, linkTimer := .stopped, srqSampled := s.lnk.srqLine }
    (s.dsc.straps.cfgSrc = .memory →
      exec .settleEnd s = .next { s with lnk := l, dsc := { s.dsc with load := .first } } ∧
        (s.dsc.phase = .none →
          ({ s with lnk := l, dsc := { s.dsc with load := .first } } : State).cfgSelected = true ∧
            ({ s with lnk := l, dsc := { s.dsc with load := .first } } : State).cfgSends = [0x03, 0, 0])) ∧
      (s.dsc.straps.cfgSrc = .portLoad → (∀ p, (s.port p).state = .active ∧ (s.port p).leasePeriod = 100) →
        exec .settleEnd s =
          .next { s with lnk := l, dsc := { s.dsc with part := .unconfigured },
                         ports := { a := { s.ports.a with lease := .running 1000000 },
                                    b := { s.ports.b with lease := .running 1000000 } } })) ∧
  (∀ (s : State) (x : Bool),
    (s.lnk.link ≠ .inBreak → s.lnk.link ≠ .settle →
        exec (.srqChange x) s = .next { s with lnk := { s.lnk with srqLine := x, srqSampled := x } }) ∧
      (s.lnk.link = .inBreak ∨ s.lnk.link = .settle →
        exec (.srqChange x) s = .next { s with lnk := { s.lnk with srqLine := x } })) ∧
  (∀ s : State, s.dsc.phase = .none →
    (s.lnk.link = .inBreak → s.linkPair = .broken) ∧
      (s.lnk.link = .settle ∨ s.lnk.link = .opened ∨ s.lnk.link = .hold → s.linkPair = .driverOff))

/-- The end of a load attempt: a valid image becomes the active directory and the part READY; a first failure begins the second
attempt; a second leaves the part UNCONFIGURED (R157). An image is valid when it is the bytes of a directory of at most 32
entries, no unit twice and a lease period of 1 to 255, with its CRC-16 (R156, 11.5). CFG_CS is asserted in an attempt and at no
other time; DSC sends 03h and two zero bytes in the first, three in the second (R155). The second and third clauses take every
list of bytes: that one of a length no attempt reads counts as a failed attempt is the model's choice (log 19). -/
def Obligations.ALoadAttemptEndsAsItsImageSays : Prop :=
  (∀ (s : State) (image : List Byte),
    (∀ d, directoryOf image = some d → s.dsc.load = .first ∨ s.dsc.load = .second →
        ∃ t, exec (.loadAttemptEnd image) s = .next t ∧ t.dsc.part = .ready ∧ t.dsc.load = .loaded ∧
          t.dsc.active = some d ∧ sameButPortsAndQueues s t ∧
          (∀ i : Fin 32, t.dsc.staging[i.val] = if h : i.val < d.entries.length then some d.entries[i.val]
            else s.dsc.staging[i.val]) ∧
          ∀ p, (t.port p).leasePeriod = d.lease ∧
            (t.port p).lease = (if (s.port p).state = .active then .running (d.lease.toNat * 10000) else (s.port p).lease) ∧
            noticeOffered p .configReady none s t) ∧
      (directoryOf image = none → s.dsc.load = .first →
        exec (.loadAttemptEnd image) s = .next { s with dsc := { s.dsc with load := .second } }) ∧
      (directoryOf image = none → s.dsc.load = .second →
        ∃ t, exec (.loadAttemptEnd image) s = .next t ∧ t.dsc.part = .unconfigured ∧ t.dsc.load = .failed ∧
          t.dsc.active = s.dsc.active ∧ t.dsc.staging = s.dsc.staging ∧ sameButPortsAndQueues s t ∧
          ∀ p, (t.port p).leasePeriod = (s.port p).leasePeriod ∧
            (t.port p).lease =
              (if (s.port p).state = .active then .running ((s.port p).leasePeriod.toNat * 10000) else (s.port p).lease) ∧
            noticeOffered p .configFailed none s t)) ∧
  (∀ (image : List Byte) (d : Directory), directoryOf image = some d ↔
    validDirectory d ∧ image = imageBody d ++ [hiByte (crc16 (imageBody d)), loByte (crc16 (imageBody d))]) ∧
  (∀ s : State, s.dsc.phase = .none →
    (s.dsc.load = .first → s.cfgSelected = true ∧ s.cfgSends = [0x03, 0, 0]) ∧
      (s.dsc.load = .second → s.cfgSelected = true ∧ s.cfgSends = [0x03, 0, 0, 0]) ∧
      (s.dsc.load ≠ .first → s.dsc.load ≠ .second → s.cfgSelected = false ∧ s.cfgSends = []))

/-! ### Port frames -/

/-- Chip select asserted opens a transaction; deasserted it ends one in any receiver state, a partial frame is discarded
unanswered, and nothing but the receiver and the level changes (R170, R171). -/
def Obligations.ChipSelectOpensAndEndsATransaction : Prop :=
  (∀ (s : State) (p : Port), s.dsc.phase = .none → (s.port p).receiver.state = .unselected →
      exec (.chipSelectAssert p) s = .next (s.modPort p (fun x =>
        { x with chipSelect := true, receiver := { state := .receiving, bytes := [], count := 0, response := none } }))) ∧
    (∀ (s : State) (p : Port), s.dsc.phase = .none → s.dsc.agreed ≠ some p →
      exec (.chipSelectDeassert p) s = .next (s.modPort p (fun x =>
        { x with chipSelect := false, receiver := { state := .unselected, bytes := [], count := 0, response := none } })))

/-- A byte of a transaction (R170): a frame byte joins the frame, the second turnaround byte begins the response, the
response's last byte ends it and the response is kept no longer (R182), and in DRAINING and IGNORING bytes do nothing more. Only
the receiver changes. The response goes out byte by byte: FFh before it, and byte k of the response frame once two turnaround
bytes and k response bytes have gone (R168); nothing is driven while chip select is deasserted. It is so in the agreement window
too, but for the last byte of the issuing port's response, which takes the agreed reset (R166). -/
def Obligations.AByteMovesTheTransactionOn : Prop :=
  (∀ (s : State) (p : Port) (b : Byte), s.dsc.phase = .none →
    let x := (s.port p).receiver
    let moved := fun (y : Receiver) => s.modPort p (fun z => { z with receiver := y })
    (x.state = .receiving → frameWhole (x.bytes ++ [b]) = false → (x.bytes.length = 1 → b.toNat ≤ 70) →
        exec (.byteTaken p b) s = .next (moved { x with bytes := x.bytes ++ [b], count := x.count + 1 })) ∧
      (x.state = .turnaround → x.count = x.bytes.length →
        exec (.byteTaken p b) s = .next (moved (receiverAt x (x.count + 1) .turnaround))) ∧
      (x.state = .turnaround → x.count = x.bytes.length + 1 →
        exec (.byteTaken p b) s = .next (moved (receiverAt x (x.count + 1) .responding))) ∧
      (x.state = .responding → x.count + 1 < x.bytes.length + 2 + x.responseLength →
        exec (.byteTaken p b) s = .next (moved (receiverAt x (x.count + 1) .responding))) ∧
      (s.dsc.agreed ≠ some p → x.state = .responding → x.count + 1 = x.bytes.length + 2 + x.responseLength →
        exec (.byteTaken p b) s = .next (moved { receiverAt x (x.count + 1) .draining with response := none })) ∧
      (x.state = .draining → exec (.byteTaken p b) s = .next (moved (receiverAt x (x.count + 1) .draining))) ∧
      (x.state = .ignoring ∨ x.state = .unselected → exec (.byteTaken p b) s = .next s)) ∧
  (∀ (s : State) (p : Port), s.dsc.phase = .none →
    let x := (s.port p).receiver
    ((s.port p).chipSelect = false → s.output p = none) ∧
      ((s.port p).chipSelect = true → x.state ≠ .responding → s.output p = some 0xFF) ∧
      (∀ (r : Response) (k : Nat), (s.port p).chipSelect = true → x.state = .responding → x.response = some r →
        x.count = x.bytes.length + 2 + k → k < r.data.length + 3 →
        s.output p = (r.code.byte :: BitVec.ofNat 8 r.data.length :: r.data ++
          [crc8 (r.code.byte :: BitVec.ofNat 8 r.data.length :: r.data)])[k]?))

/-- The byte that completes a frame, clocked in, does exactly what the row of that frame does: the good CRC-8 of a command frame the
command's row, a CRC-8 that is not good FRAME_ERROR's, an argument length above 70 ARGUMENT_LENGTH_ERROR's (R170, R172, R173). The
model ties them: a row of a frame takes what is left of it, and the row is the frame's own last byte (log 4). -/
def Obligations.TheLastByteOfAFrameRunsItsRow : Prop :=
  (∀ (c : Instr) (p : Port) (code : Byte) (args : List Byte) (s : State),
    rowFrame c = some (p, code, args) → c.wellFormed = true → s.dsc.phase = .none →
    (s.port p).receiver.state = .receiving →
    (s.port p).receiver.bytes = code :: BitVec.ofNat 8 args.length :: args →
    exec (.byteTaken p (crc8 (code :: BitVec.ofNat 8 args.length :: args))) s = exec c s) ∧
  (∀ (s : State) (p : Port) (code check : Byte) (args : List Byte),
    s.dsc.phase = .none → (s.port p).receiver.state = .receiving → args.length ≤ 70 →
    let bytes := code :: BitVec.ofNat 8 args.length :: args
    (s.port p).receiver.bytes = bytes → check ≠ crc8 bytes →
    exec (.byteTaken p check) s = exec (.frameError p (bytes ++ [check])) s) ∧
  (∀ (s : State) (p : Port) (code len : Byte),
    s.dsc.phase = .none → (s.port p).receiver.state = .receiving → (s.port p).receiver.bytes = [code] → 70 < len.toNat →
    exec (.byteTaken p len) s = exec (.argumentLengthError p code len) s)

/-- What the command of a good frame finds (R137, R140, R173): the frame taken; on an ACTIVE port the lease restarted once
start-up has ended; a LAPSED port ACTIVE with its lease started and the two notices offered. -/
def Obligations.AGoodFrameRestartsTheLeaseOrResumesThePort : Prop :=
  ∀ (s : State) (p : Port) (code : Byte) (args : List Byte),
    let b := s.judged p code args
    let r : Receiver := { state := .turnaround, bytes := commandFrame code args, count := (commandFrame code args).length,
                          response := none }
    ((s.port p).state = .active → s.dsc.part ≠ .loading →
        b = s.modPort p (fun x => { x with receiver := r, lease := .running ((s.port p).leasePeriod.toNat * 10000) })) ∧
      ((s.port p).state = .active → s.dsc.part = .loading → b = s.modPort p (fun x => { x with receiver := r })) ∧
      ((s.port p).state = .lapsed →
        sameButPortsAndQueues s b ∧ b.dsc = s.dsc ∧ noticeOffered p.peer .peerResumed none s b ∧
          noticeOffered p .adoptedAway (some (s.port p).adoptedAway) s b ∧
          b.port p = { s.port p with receiver := r, state := .active,
                                     lease := .running ((s.port p).leasePeriod.toNat * 10000),
                                     noticeLost := (b.port p).noticeLost } ∧
          b.port p.peer = { s.port p.peer with noticeLost := (b.port p.peer).noticeLost })

/-- A frame with a bad CRC-8, or with an argument length above 70, is answered FRAME_ERROR: no command, no lease
restart, no resumption (R172, R173 step 1). A good frame with an unassigned code, or an argument length its command
does not accept, is answered BAD_COMMAND, after the lease restart or resumption of its good frame (R173 steps 2 to
4). -/
def Obligations.AFrameWithoutACommandIsAnsweredAndNothingElse : Prop :=
  ((∀ (s : State) (p : Port) (frame : List Byte), s.canTake p frame = true → s.dsc.agreed = none →
      frameWhole frame = true → frame.getLast? ≠ some (crc8 frame.dropLast) →
      exec (.frameError p frame) s = .next (s.modPort p (fun x =>
        { x with receiver := { state := .turnaround, bytes := frame, count := frame.length,
                               response := some { code := .frameError, data := [] } } }))) ∧
    (∀ (s : State) (p : Port) (code len : Byte), s.canTake p [code, len] = true → s.dsc.agreed = none →
      70 < len.toNat →
      exec (.argumentLengthError p code len) s = .next (s.modPort p (fun x =>
        { x with receiver := { state := .turnaround, bytes := [code, len], count := 2,
                               response := some { code := .frameError, data := [] } } })))) ∧
  (∀ (s : State) (p : Port) (code : Byte) (args : List Byte), s.takes p code args → args.length ≤ 70 →
    (code.toNat = 0 ∨ 0x16 ≤ code.toNat ∨ lengthAccepted code.toNat args.length = false) →
    exec (.badCommand p code args) s = .next (answers p .badCommand (s.judged p code args)))

/-! ### Port commands: status and records -/

/-- KEEPALIVE is answered OK with no data in every part state and changes no state of its own (R142). READ_STATUS
answers the eleven bytes of 11.2 and clears NOTICE_LOST, and changes nothing else (R178, R180, 11.2). That all its fields are
those of one state is the model's choice: R179 allows each block its own reading (log 18). -/
def Obligations.KeepaliveAndReadStatusReportOnly : Prop :=
  (∀ (s : State) (p : Port), s.takes p 0x02 [] → exec (.keepalive p) s = .next (answers p .ok (s.judged p 0x02 []))) ∧
  (∀ (s : State) (p : Port), s.takes p 0x01 [] →
    let b := s.judged p 0x01 []
    let own := b.port p
    exec (.readStatus p) s = .next (respond p
      { code := .ok,
        data :=
          [BitVec.ofNat 8 ((if own.state = .lapsed then 1 else 0) + (if (b.port p.peer).state = .lapsed then 2 else 0)
              + (if own.noticeLost then 4 else 0)),
            (match b.dsc.part with | .loading => 0 | .unconfigured => 1 | .ready => 2),
            (match b.dsc.load with | .none => 0 | .first => 1 | .second => 2 | .loaded => 3 | .failed => 4),
            BitVec.ofNat 8 (b.queue p).length, BitVec.ofNat 8 (b.heldList p).length,
            BitVec.ofNat 8 b.rcm.deferred.length, BitVec.ofNat 8 own.lapseCount, BitVec.ofNat 8 own.adoptedAway,
            own.leasePeriod, (match b.dsc.cause with | .powerOn => 0 | .pin => 1 | .part => 2),
            BitVec.ofNat 8 ((if b.dsc.straps.cfgSrc = .portLoad then 1 else 0)
              + (if b.dsc.straps.linkRate = .mbit4 then 2 else 0)
              + (if b.dsc.straps.cfgSpeed = .mhz8 then 4 else 0))] }
      (b.modPort p (fun x => { x with noticeLost := false }))))

/-- PEEK_RECORD answers EMPTY on an empty queue, else OK with a copy of the head, and changes nothing (R119).
TAKE_RECORD answers EMPTY on an empty queue, else removes and returns the head and refills from the held list (R118,
R120). PEER_TAKE answers PEER_ACTIVE while the peer is ACTIVE, EMPTY on its empty queue, else removes and returns
the head of the peer's queue and refills it (R147). The 16 bytes of each kind of record are those of 11.4; byte 5 of a NOTICE
without an argument is 00h by the model's choice (log 32). -/
def Obligations.RecordsAreTakenFromTheHeadAndRefilled : Prop :=
  (∀ (s : State) (p : Port), s.takes p 0x08 [] →
    let b := s.judged p 0x08 []
    (b.queue p = [] → exec (.peekRecord p) s = .next (answers p .empty b)) ∧
      (∀ r rest, b.queue p = r :: rest →
        exec (.peekRecord p) s = .next (respond p { code := .ok, data := r.bytes } b))) ∧
  (∀ (s : State) (p : Port), s.takes p 0x07 [] →
    let b := s.judged p 0x07 []
    (b.queue p = [] → exec (.takeRecord p) s = .next (answers p .empty b)) ∧
      (∀ r rest, b.queue p = r :: rest →
        ∃ t, exec (.takeRecord p) s = .next (respond p { code := .ok, data := r.bytes } t) ∧ removalOf p rest b t)) ∧
  (∀ (s : State) (p : Port), s.takes p 0x09 [] →
    let b := s.judged p 0x09 []
    ((b.port p.peer).state = .active → exec (.peerTake p) s = .next (answers p .peerActive b)) ∧
      ((b.port p.peer).state = .lapsed → b.queue p.peer = [] → exec (.peerTake p) s = .next (answers p .empty b)) ∧
      (∀ r rest, (b.port p.peer).state = .lapsed → b.queue p.peer = r :: rest →
        ∃ t, exec (.peerTake p) s = .next (respond p { code := .ok, data := r.bytes } t) ∧ removalOf p.peer rest b t)) ∧
  (∀ (n : Word) (c : Completion),
    let owner : Nat := if c.owner = .b then 1 else 0
    let status : Nat := match c.status with | some st => st.toNat | none => 0
    let left : Word := BitVec.ofNat 16 c.residual
    let x := c.conds
    let low := [x.length, x.storeFault, x.programFault, x.linkFault, x.protocol, x.noUnit, x.refused, x.halted]
    let high := [x.adopted, x.timeout, x.linkReset, x.milestoneMissed]
    let byteOf := fun (l : List Bool) => BitVec.ofNat 8 (l.foldr (fun b r => (if b then 1 else 0) + 2 * r) 0)
    ({ seq := n, body := .completion c } : Record).bytes =
      [1, hiByte n, loByte n, BitVec.ofNat 8 c.unit.val, BitVec.ofNat 8 (owner + if c.status = none then 0 else 2),
        BitVec.ofNat 8 status, hiByte c.lastDesc, loByte c.lastDesc, hiByte c.resume, loByte c.resume, hiByte left, loByte left,
        byteOf high, byteOf low, 0, 0]) ∧
  (∀ (n : Word) (u : UnitAddr) (st : UStatus) (a : Word),
    ({ seq := n, body := .attention u st } : Record).bytes =
        [2, hiByte n, loByte n, BitVec.ofNat 8 u.val, 0, BitVec.ofNat 8 st.toNat, 0, 0, 0, 0, 0, 0, 0, 0, 0, 0] ∧
      ({ seq := n, body := .milestone u a } : Record).bytes =
        [3, hiByte n, loByte n, BitVec.ofNat 8 u.val, 0, 0, hiByte a, loByte a, 0, 0, 0, 0, 0, 0, 0, 0]) ∧
  (∀ (n : Word) (c : NoticeCode) (x : Nat),
    let code : Byte := match c with
      | .configReady => 1 | .configFailed => 2 | .peerLapsed => 3 | .peerResumed => 4 | .peerReset => 5 | .adoptedAway => 6
      | .strayUnit => 7 | .linkResetDone => 8
    ({ seq := n, body := .notice c (some x) } : Record).bytes =
        [4, hiByte n, loByte n, code, 1, BitVec.ofNat 8 x, 0, 0, 0, 0, 0, 0, 0, 0, 0, 0] ∧
      ({ seq := n, body := .notice c none } : Record).bytes =
        [4, hiByte n, loByte n, code, 0, 0, 0, 0, 0, 0, 0, 0, 0, 0, 0, 0])

/-! ### Port commands: the store and its pages -/

/-- READ_STORE makes its address check and its page check and answers the bytes, lowest address first; it changes
nothing (R54). QUERY_PAGES: BAD_ARG out of range, else one byte for each page from the first, its tag in bits 7-6
and its use count in bits 5-0; nothing changes (R53). -/
def Obligations.ReadStoreAndQueryPagesReport : Prop :=
  (∀ (s : State) (p : Port) (addr : Word) (len : Byte), s.takes p 0x0A [hiByte addr, loByte addr, len] →
    let b := s.judged p 0x0A [hiByte addr, loByte addr, len]
    let fails := lowestFailing (holdsByte addr len.toNat) (fun q => b.pageOpen p q = true)
    (¬ bytesFit addr len.toNat → exec (.readStore p addr len) s = .next (answers p .badArg b)) ∧
      (∀ q, bytesFit addr len.toNat → fails q →
        exec (.readStore p addr len) s = .next (respond p { code := .pageFault, data := [BitVec.ofNat 8 q.val] } b)) ∧
      (bytesFit addr len.toNat → (∀ q, ¬ fails q) →
        ∃ data : List Byte, exec (.readStore p addr len) s = .next (respond p { code := .ok, data := data } b) ∧
          data.length = len.toNat ∧ ∀ i, i < len.toNat → data[i]? = some (b.byteAt (BitVec.ofNat 15 (addr.toNat + i))))) ∧
  (∀ (s : State) (p : Port) (first number : Byte), s.takes p 0x0F [first, number] →
    let b := s.judged p 0x0F [first, number]
    (¬ rangeFits first number → exec (.queryPages p first number) s = .next (answers p .badArg b)) ∧
      (rangeFits first number →
        ∃ data : List Byte, exec (.queryPages p first number) s = .next (respond p { code := .ok, data := data } b) ∧
          data.length = number.toNat ∧
          ∀ q : PageNo, inRange first number q → (b.page q).uses ≤ 32 →
            data[q.val - first.toNat]? = some (BitVec.ofNat 8
              (64 * (match (b.page q).tag with | .free => 0 | .portA => 1 | .portB => 2 | .shared => 3) + (b.page q).uses))))

/-- WRITE_STORE of 1 to 64 bytes makes the checks of R54 and writes every byte or none; no data byte or 65 to 68 is
BAD_COMMAND (R55). -/
def Obligations.WriteStoreWritesEveryByteOrNone : Prop :=
  ∀ (s : State) (p : Port) (addr : Word) (data : List Byte), s.takes p 0x0B (hiByte addr :: loByte addr :: data) →
    s.storeOk →
    let b := s.judged p 0x0B (hiByte addr :: loByte addr :: data)
    let fails := lowestFailing (holdsByte addr data.length) (fun q => b.pageOpen p q = true)
    (data.length = 0 ∨ (65 ≤ data.length ∧ data.length ≤ 68) →
        exec (.writeStore p addr data) s = .next (answers p .badCommand b)) ∧
      (1 ≤ data.length → data.length ≤ 64 → ¬ bytesFit addr data.length →
        exec (.writeStore p addr data) s = .next (answers p .badArg b)) ∧
      (∀ q, bytesFit addr data.length → fails q →
        exec (.writeStore p addr data) s =
          .next (respond p { code := .pageFault, data := [BitVec.ofNat 8 q.val] } b)) ∧
      (bytesFit addr data.length → (∀ q, ¬ fails q) →
        ∃ m, exec (.writeStore p addr data) s = .next (answers p .ok (b.withStore m)) ∧
          ∀ a : StoreAddr, m.lookup a.toNat = placedAt false addr data a (b.byteAt a))

/-- CLAIM_PAGES: BAD_ARG out of range, IN_USE with the lowest page that is not FREE, else every page of the range takes
the issuer's tag (R50). SHARE_PAGES: BAD_ARG out of range, NOT_OWNER with the lowest page not tagged to the issuer,
else every page of the range becomes SHARED with its use count kept (R51). -/
def Obligations.ClaimAndSharePagesRetagThem : Prop :=
  (∀ (s : State) (p : Port) (first number : Byte), s.takes p 0x0C [first, number] →
    let b := s.judged p 0x0C [first, number]
    let fails := lowestFailing (inRange first number) (fun q => (b.page q).tag = .free)
    (¬ rangeFits first number → exec (.claimPages p first number) s = .next (answers p .badArg b)) ∧
      (∀ q, rangeFits first number → fails q → exec (.claimPages p first number) s =
        .next (respond p { code := .inUse, data := [BitVec.ofNat 8 q.val] } b)) ∧
      (rangeFits first number → (∀ q, ¬ fails q) →
        ∃ v, exec (.claimPages p first number) s = .next (answers p .ok (b.withPages v)) ∧
          retagged first number (if p = .a then .portA else .portB) b v)) ∧
  (∀ (s : State) (p : Port) (first number : Byte), s.takes p 0x0D [first, number] →
    let b := s.judged p 0x0D [first, number]
    let fails := lowestFailing (inRange first number) (fun q => (b.page q).tag = if p = .a then .portA else .portB)
    (¬ rangeFits first number → exec (.sharePages p first number) s = .next (answers p .badArg b)) ∧
      (∀ q, rangeFits first number → fails q → exec (.sharePages p first number) s =
        .next (respond p { code := .notOwner, data := [BitVec.ofNat 8 q.val] } b)) ∧
      (rangeFits first number → (∀ q, ¬ fails q) →
        ∃ v, exec (.sharePages p first number) s = .next (answers p .ok (b.withPages v)) ∧
          retagged first number .shared b v))

/-- RELEASE_PAGES: BAD_ARG, then NOT_OWNER with the lowest page neither the issuer's nor SHARED, then IN_USE with the lowest page
in use, each check over the whole range; else every page becomes FREE (R52). -/
def Obligations.ReleasePagesFreesUnusedPages : Prop :=
  ∀ (s : State) (p : Port) (first number : Byte), s.takes p 0x0E [first, number] →
    let b := s.judged p 0x0E [first, number]
    let closed := lowestFailing (inRange first number)
      (fun q => (b.page q).tag = (if p = .a then .portA else .portB) ∨ (b.page q).tag = .shared)
    let used := lowestFailing (inRange first number) (fun q => (b.page q).uses = 0)
    (¬ rangeFits first number → exec (.releasePages p first number) s = .next (answers p .badArg b)) ∧
      (∀ q, rangeFits first number → closed q → exec (.releasePages p first number) s =
        .next (respond p { code := .notOwner, data := [BitVec.ofNat 8 q.val] } b)) ∧
      (∀ q, rangeFits first number → (∀ r, ¬ closed r) → used q → exec (.releasePages p first number) s =
        .next (respond p { code := .inUse, data := [BitVec.ofNat 8 q.val] } b)) ∧
      (rangeFits first number → (∀ q, ¬ closed q) → (∀ q, ¬ used q) →
        ∃ v, exec (.releasePages p first number) s = .next (answers p .ok (b.withPages v)) ∧
          retagged first number .free b v)

/-! ### Port commands: orders -/

/-- START's checks in order, each refusal changing nothing (R16). START accepted: the context is QUEUED at the select
queue's tail with the issuer as owner and the descriptor found; its MILESTONE, if any, is placed in the issuer's
queue or counted as missed (R5, R17, R33, R130). -/
def Obligations.StartQueuesACheckedOrder : Prop :=
  (∀ (s : State) (p : Port) (unit : Byte) (addr : Word), s.takes p 0x03 [unit, hiByte addr, loByte addr] →
    let b := s.judged p 0x03 [unit, hiByte addr, loByte addr]
    let refused := fun (c : Result) => exec (.start p unit addr) s = .next (answers p c b)
    (b.dsc.part ≠ .ready → refused .notReady) ∧
      (b.dsc.part = .ready → 32 ≤ unit.toNat → refused .badArg) ∧
      ∀ u : UnitAddr, b.dsc.part = .ready → unit.toNat = u.val →
        (b.entry u = none → refused .noEntry) ∧
          (b.entry u ≠ none → (b.ctx u).state ≠ .idle → refused .busy) ∧
          (b.entry u ≠ none → (b.ctx u).state = .idle → (addr.toNat % 8 ≠ 0 ∨ 0x7FF8 < addr.toNat) → refused .badArg) ∧
          (b.entry u ≠ none → (b.ctx u).state = .idle → addr.toNat % 8 = 0 → addr.toNat ≤ 0x7FF8 →
            ¬ programOpen b p addr → refused .pageFault) ∧
          (b.entry u ≠ none → (b.ctx u).state = .idle → addr.toNat % 8 = 0 → addr.toNat ≤ 0x7FF8 →
            programOpen b p addr → (fetch .order p b addr.toNat).found = none → refused .programFault)) ∧
  (∀ (s : State) (p : Port) (unit : Byte) (addr : Word) (u : UnitAddr) (d : Descriptor) (a : Word),
    s.takes p 0x03 [unit, hiByte addr, loByte addr] →
    let b := s.judged p 0x03 [unit, hiByte addr, loByte addr]
    b.dsc.part = .ready → unit.toNat = u.val → b.entry u ≠ none → b.ctx u = {} → addr.toNat % 8 = 0 →
    addr.toNat ≤ 0x7FF8 → programOpen b p addr → (fetch .order p b addr.toNat).found = some (d, a) →
    let c : Context := { state := .queued, owner := some p, desc := some d, descAddr := some a,
                         jumps := (fetch .order p b addr.toNat).jumps }
    let q := b.modSelectQ (fun l => l ++ [u])
    (d.milestone = false → exec (.start p unit addr) s = .next (answers p .ok (q.modCtx u (fun _ => c)))) ∧
      (d.milestone = true → roomIn b p → exec (.start p unit addr) s = .next (answers p .ok
        (((q.modCtx u (fun _ => c)).setQueue p (b.queue p ++ [{ seq := b.seqNo p, body := .milestone u a }])).setSeqNo p
          (b.seqNo p + 1)))) ∧
      (d.milestone = true → ¬ roomIn b p → exec (.start p unit addr) s = .next (answers p .ok
        (q.modCtx u (fun _ => { c with milestoneMissed := true })))))

/-- HALT by the table of R18: NOT_READY, BAD_ARG, then what each context found answers, and the halt request it sets.
HALT by its owner of a QUEUED order ends it at once: out of the select queue, a COMPLETION record with HALTED, no
unit status and residual 0, placed with the context IDLE or held (R5, R10, R18, R117). -/
def Obligations.HaltStopsAnOrderByItsState : Prop :=
  (∀ (s : State) (p : Port) (unit : Byte), s.takes p 0x04 [unit] →
    let b := s.judged p 0x04 [unit]
    (b.dsc.part ≠ .ready → exec (.halt p unit) s = .next (answers p .notReady b)) ∧
    (b.dsc.part = .ready → 32 ≤ unit.toNat → exec (.halt p unit) s = .next (answers p .badArg b)) ∧
    ∀ u : UnitAddr, b.dsc.part = .ready → unit.toNat = u.val →
    let c := b.ctx u
    (c.state = .idle → exec (.halt p unit) s = .next (answers p .idle b)) ∧
      (c.state ≠ .idle → c.owner = some p.peer → (b.port p.peer).state = .lapsed →
        exec (.halt p unit) s = .next (respond p { code := .ok, data := [1] } (adoptCounted p u b))) ∧
      (c.state = .held → (c.owner = some p.peer → (b.port p.peer).state = .active) →
        exec (.halt p unit) s = .next (answers p .busy b)) ∧
      (c.state ≠ .idle → c.state ≠ .held → c.owner = some p.peer → (b.port p.peer).state = .active →
        exec (.halt p unit) s = .next (answers p .notOwner b)) ∧
      (c.inProgress = true → c.owner = some p → c.halt ≠ none → exec (.halt p unit) s = .next (answers p .ok b)) ∧
      (c.state = .selecting ∨ c.state = .connected → c.owner = some p → c.halt = none →
        exec (.halt p unit) s = .next (answers p .ok (b.modCtx u (fun x => { x with halt := some .halt })))) ∧
      (c.state = .disconnected → c.owner = some p → c.halt = none → c.stopQueued = false →
        exec (.halt p unit) s = .next (answers p .ok ((b.modStopQ (fun l => l ++ [u])).modCtx u
          (fun x => { x with halt := some .halt, stopQueued := true }))))) ∧
  (∀ (s : State) (p : Port) (unit : Byte) (u : UnitAddr) (a : Word), s.takes p 0x04 [unit] → unit.toNat = u.val →
    let b := s.judged p 0x04 [unit]
    let c := b.ctx u
    b.dsc.part = .ready → c.state = .queued → c.owner = some p → c.halt = none → c.seg = none →
    c.descAddr = some a → c.discard = false → u ∉ b.ctb.stopQ →
    let r : Completion := { unit := u, owner := p, lastDesc := a, resume := a + 8, residual := 0,
                            conds := closedWith c { c.conds with halted := true }, status := none }
    let q := b.modSelectQ (fun l => l.filter (fun v => v ≠ u))
    (roomIn b p → exec (.halt p unit) s = .next (answers p .ok
        (((q.setQueue p (b.queue p ++ [{ seq := b.seqNo p, body := .completion r }])).setSeqNo p (b.seqNo p + 1)).modCtx u
          (fun _ => {})))) ∧
      (¬ roomIn b p → ∃ t, exec (.halt p unit) s = .next (answers p .ok t) ∧
        t = (q.setHeldList p (b.heldList p ++ [u])).modCtx u (fun _ => t.ctx u) ∧ (t.ctx u).state = .held ∧
        (t.ctx u).owner = some p ∧ (t.ctx u).heldRecord = some r ∧ (t.ctx u).desc = none ∧ (t.ctx u).halt = none ∧
        (t.ctx u).descAddr = some a))

/-- QUERY_UNIT answers the nine bytes of 11.2 for any unit, and changes nothing; NOT_READY in LOADING, BAD_ARG above 31
(R19). -/
def Obligations.QueryUnitReportsTheContext : Prop :=
  ∀ (s : State) (p : Port) (unit : Byte), s.takes p 0x05 [unit] →
    let b := s.judged p 0x05 [unit]
    (b.dsc.part = .loading → exec (.queryUnit p unit) s = .next (answers p .notReady b)) ∧
      (b.dsc.part ≠ .loading → 32 ≤ unit.toNat → exec (.queryUnit p unit) s = .next (answers p .badArg b)) ∧
      ∀ u : UnitAddr, b.dsc.part ≠ .loading → unit.toNat = u.val →
        let c := b.ctx u
        let d : Word := c.descAddr.getD 0xFFFF
        let n : Nat :=
          match c.state, c.heldRecord, c.seg with
          | .held, some r, _ => r.residual
          | _, _, some g => g.remaining
          | _, _, none => 0
        ∃ pos : Byte, exec (.queryUnit p unit) s = .next (respond p
            { code := .ok,
              data := [(match c.state with
                  | .idle => 0 | .queued => 1 | .selecting => 2 | .connected => 3 | .disconnected => 4 | .held => 5),
                (match c.owner with | some .a => 0 | some .b => 1 | none => 0xFF), hiByte d, loByte d,
                hiByte (BitVec.ofNat 16 n), loByte (BitVec.ofNat 16 n),
                (match c.lookahead with | .absent => 0 | .present _ _ => 1 | .faulted => 2),
                (match c.halt with
                  | none => 0 | some .halt => 1 | some .adopt => 2 | some .portReset => 3 | some .storeFault => 4
                  | some .timeout => 5), pos] } b) ∧
          (c.state ≠ .held → pos = 0) ∧
          (∀ x pre post, c.state = .held → c.owner = some x → b.heldList x = pre ++ u :: post → u ∉ pre →
            pos = BitVec.ofNat 8 (pre.length + 1))

/-- ADOPT's checks in order, each refusal changing nothing (R143). ADOPT of one context of the LAPSED peer on the link:
the adopter owns it, adopted is set, discard record cleared, a halt request set with cause ADOPT if none is, a
DISCONNECTED context on the stop queue; the count is 1 (R13, R143, R144). ADOPT of a QUEUED context of the LAPSED
peer ends its order at once: out of the select queue, a record of the adopter's with HALTED and ADOPTED, residual 0
and no unit status, placed with the context IDLE, or held (R10, R144). ADOPT of a HELD context of the LAPSED peer:
its record names the adopter and gains ADOPTED, it leaves the peer's held list, and it is placed in the adopter's
queue with the context IDLE, or held on the adopter's list (R145). -/
def Obligations.AdoptTakesOverTheLapsedPeersOrders : Prop :=
  (∀ (s : State) (p : Port) (arg : Byte), s.takes p 0x06 [arg] →
    let b := s.judged p 0x06 [arg]
    let refused := fun (c : Result) => exec (.adopt p arg) s = .next (answers p c b)
    (b.dsc.part ≠ .ready → refused .notReady) ∧
      (b.dsc.part = .ready → 32 ≤ arg.toNat → arg ≠ 0xFF → refused .badArg) ∧
      (b.dsc.part = .ready → (arg.toNat < 32 ∨ arg = 0xFF) → (b.port p.peer).state = .active → refused .peerActive) ∧
      (∀ u : UnitAddr, b.dsc.part = .ready → arg.toNat = u.val → (b.port p.peer).state = .lapsed →
        (b.ctx u).owner ≠ some p.peer → refused .notOwner)) ∧
  (∀ (s : State) (p : Port) (arg : Byte) (u : UnitAddr), s.takes p 0x06 [arg] → arg.toNat = u.val →
    let b := s.judged p 0x06 [arg]
    let c := b.ctx u
    b.dsc.part = .ready → (b.port p.peer).state = .lapsed → c.owner = some p.peer → c.onLink →
    let joins := c.state = .disconnected ∧ c.stopQueued = false
    exec (.adopt p arg) s = .next (respond p { code := .ok, data := [1] }
      (((b.modStopQ (fun l => if joins then l ++ [u] else l)).modCtx u (fun x =>
          { x with owner := some p, adopted := true, discard := false, halt := some (x.halt.getD .adopt),
                   stopQueued := x.stopQueued || decide (x.state = .disconnected) })).modPort p.peer
        (fun x => { x with adoptedAway := x.adoptedAway + 1 })))) ∧
  (∀ (s : State) (p : Port) (arg : Byte) (u : UnitAddr) (a : Word), s.takes p 0x06 [arg] → arg.toNat = u.val →
    let b := s.judged p 0x06 [arg]
    let c := b.ctx u
    b.dsc.part = .ready → (b.port p.peer).state = .lapsed → c.owner = some p.peer → c.state = .queued → c.seg = none →
    c.descAddr = some a → u ∉ b.ctb.stopQ →
    let r : Completion := { unit := u, owner := p, lastDesc := a, resume := a + 8, residual := 0,
                            conds := closedWith { c with adopted := true } c.conds, status := none }
    let q := (b.modSelectQ (fun l => l.filter (fun v => v ≠ u))).modPort p.peer
      (fun x => { x with adoptedAway := x.adoptedAway + 1 })
    (roomIn b p → exec (.adopt p arg) s = .next (respond p { code := .ok, data := [1] }
        (((q.setQueue p (b.queue p ++ [{ seq := b.seqNo p, body := .completion r }])).setSeqNo p (b.seqNo p + 1)).modCtx u
          (fun _ => {})))) ∧
      (¬ roomIn b p → ∃ t, exec (.adopt p arg) s = .next (respond p { code := .ok, data := [1] } t) ∧
        t = (q.setHeldList p (b.heldList p ++ [u])).modCtx u (fun _ => t.ctx u) ∧ (t.ctx u).state = .held ∧
        (t.ctx u).owner = some p ∧ (t.ctx u).heldRecord = some r ∧ (t.ctx u).desc = none ∧ (t.ctx u).halt = none)) ∧
  (∀ (s : State) (p : Port) (arg : Byte) (u : UnitAddr) (r : Completion), s.takes p 0x06 [arg] → arg.toNat = u.val →
    let b := s.judged p 0x06 [arg]
    b.dsc.part = .ready → (b.port p.peer).state = .lapsed → (b.ctx u).owner = some p.peer →
    (b.ctx u).state = .held → (b.ctx u).heldRecord = some r → (b.ctx u).seg = none →
    let r1 : Completion := { r with owner := p, conds := { r.conds with adopted := true } }
    let q := (b.setHeldList p.peer ((b.heldList p.peer).filter (fun v => v ≠ u))).modPort p.peer
      (fun x => { x with adoptedAway := x.adoptedAway + 1 })
    (roomIn b p → exec (.adopt p arg) s = .next (respond p { code := .ok, data := [1] }
        (((q.setQueue p (b.queue p ++ [{ seq := b.seqNo p, body := .completion r1 }])).setSeqNo p (b.seqNo p + 1)).modCtx u
          (fun _ => {})))) ∧
      (¬ roomIn b p → exec (.adopt p arg) s = .next (respond p { code := .ok, data := [1] }
        ((q.setHeldList p (b.heldList p ++ [u])).modCtx u (fun x =>
          { x with owner := some p, adopted := true, heldRecord := some r1 })))))

/-- ADOPT ALL: every context of the LAPSED peer is adopted, in ascending order of unit address, each as ADOPT of that unit alone
adopts it (AdoptTakesOverTheLapsedPeersOrders says how); the count is answered and added to the peer's adopted-away count, and
contexts the peer does not own are left alone (R143). -/
def Obligations.AdoptAllTakesEveryContextOfThePeer : Prop :=
  (∀ (s : State) (p : Port) (arg : Byte) (u : UnitAddr), s.takes p 0x06 [arg] → arg.toNat = u.val →
    let b := s.judged p 0x06 [arg]
    b.dsc.part = .ready → (b.port p.peer).state = .lapsed → (b.ctx u).owner = some p.peer →
    exec (.adopt p arg) s = .next (respond p { code := .ok, data := [1] } (adoptCounted p u b))) ∧
  (∀ (s : State) (p : Port), s.takes p 0x06 [0xFF] →
    let b := s.judged p 0x06 [0xFF]
    let us := allUnits.filter (fun u => (b.ctx u).owner = some p.peer)
    let n := us.length
    b.dsc.part = .ready → (b.port p.peer).state = .lapsed →
    ∃ t, exec (.adopt p 0xFF) s = .next (respond p { code := .ok, data := [BitVec.ofNat 8 n] } t) ∧
      t = us.foldl (fun x u => adoptCounted p u x) b ∧
      us.Pairwise (fun u v => u < v) ∧ (∀ u, u ∈ us ↔ (b.ctx u).owner = some p.peer) ∧
      (b.contextsOk →
        (∀ u, (t.ctx u).owner ≠ some p.peer) ∧
        (∀ u, (b.ctx u).owner ≠ some p.peer → t.ctx u = b.ctx u) ∧
        t.port p.peer = { b.port p.peer with adoptedAway := (b.port p.peer).adoptedAway + n } ∧
        t.heldList p.peer = [] ∧ t.queue p.peer = b.queue p.peer ∧ t.lnk = b.lnk ∧ t.dsc = b.dsc ∧
        t.str.store = b.str.store ∧ ∀ q, (t.page q).tag = (b.page q).tag))

/-- PORT_RESET (R148): the issuer's QUEUED and HELD contexts go to IDLE, its orders on the link get discard record and a halt
request, its DISCONNECTED ones join the stop queue's tail if not yet on it, in ascending order of unit address, which is the
model's choice (log 34), and the select queue keeps the others in their order (R14, R15, R22); its queue, held list, counter,
NOTICE_LOST and stamp are cleared; PEER_RESET goes to the peer; the rest stays, the silence timers among it, which is the
model's choice too (log 35). -/
def Obligations.PortResetClearsTheIssuersPort : Prop :=
  ∀ (s : State) (p : Port), s.takes p 0x10 [] →
    let b := s.judged p 0x10 []
    b.contextsOk →
    ∃ t, exec (.portReset p) s = .next (answers p .ok t) ∧
      (∀ u, (b.ctx u).owner ≠ some p → t.ctx u = b.ctx u) ∧
      (∀ u, (b.ctx u).owner = some p → (b.ctx u).state = .queued ∨ (b.ctx u).state = .held → t.ctx u = {}) ∧
      (∀ u, (b.ctx u).owner = some p → (b.ctx u).onLink →
        t.ctx u = { b.ctx u with
          discard := true, halt := some ((b.ctx u).halt.getD .portReset),
          stopQueued := (b.ctx u).stopQueued || decide ((b.ctx u).state = .disconnected) }) ∧
      (∀ u, u ∈ t.ctb.selectQ ↔ u ∈ b.ctb.selectQ ∧ (b.ctx u).owner ≠ some p) ∧
      t.ctb.selectQ = b.ctb.selectQ.filter (fun u => (b.ctx u).owner ≠ some p) ∧
      t.ctb.stopQ = b.ctb.stopQ ++ allUnits.filter (fun u =>
        (b.ctx u).owner = some p ∧ (b.ctx u).state = .disconnected ∧ (b.ctx u).stopQueued = false) ∧
      t.queue p = [] ∧ t.seqNo p = 0 ∧ t.heldList p = [] ∧ t.heldList p.peer = b.heldList p.peer ∧
      t.port p = { b.port p with noticeLost := false, stamp := .void } ∧
      noticeOffered p.peer .peerReset none b t ∧
      t.port p.peer = { b.port p.peer with noticeLost := (t.port p.peer).noticeLost } ∧
      t.lnk = b.lnk ∧ t.str = b.str ∧ t.dsc = b.dsc ∧ t.rcm.deferred = b.rcm.deferred ∧ t.pending = b.pending

/-- LINK_RESET (R110, R111): the link-reset condition begins; every order in progress ends with LINK_RESET, in ascending order
of unit address, its record dropped, placed or held; the queues of orders and the deferred list are empty, HELD contexts and the
store stay, and the LINK_RESET_DONE notice that follows the records is offered to both queues with the count. No page is in use
after it (R62). -/
def Obligations.LinkResetEndsEveryOrderInProgress : Prop :=
  ∀ (s : State) (p : Port), s.takes p 0x11 [] →
    let b := s.judged p 0x11 []
    let us := allUnits.filter (fun u => (b.ctx u).inProgress)
    (b.dsc.part = .loading → exec (.linkReset p) s = .next (answers p .notReady b)) ∧
      (b.dsc.part ≠ .loading → b.contextsOk →
        ∃ t, exec (.linkReset p) s = .next (answers p .ok t) ∧
          t.lnk = { b.lnk with link := .inBreak, linkTimer := .running 1000, exchange := none, conn := none,
                               replyTimer := .stopped, gapTimer := .stopped, reception := .none, grantMem := none,
                               answers := Vector.replicate 32 none } ∧
          t.ctb.selectQ = [] ∧ t.ctb.stopQ = [] ∧ t.rcm.deferred = [] ∧
          (∃ m, endedInTurn us { b with lnk := t.lnk } m ∧ (∀ u, t.ctx u = m.ctx u) ∧ t.str = m.str ∧
            t.rcm.heldLists = m.rcm.heldLists ∧
            ∀ x, noticeOffered x .linkResetDone (some us.length) m t) ∧
          us.Pairwise (fun u v => u < v) ∧
          (b.useCountsOk → ∀ q, (t.page q).uses = 0) ∧
          (∀ u, (t.ctx u).state = .idle ∨ (t.ctx u).state = .held) ∧
          (∀ u, (b.ctx u).inProgress = false → t.ctx u = b.ctx u) ∧
          t.str.store = b.str.store ∧ (∀ q, (t.page q).tag = (b.page q).tag) ∧ t.dsc = b.dsc ∧
          t.pending = b.pending ∧
          ∀ x, t.port x = { b.port x with noticeLost := (t.port x).noticeLost })

/-! ### Port commands: the directory and the part -/

/-- LOAD_DIRECTORY: NOT_READY in LOADING, BAD_ARG for a field out of range, else the staging entry at the index is
written and nothing else changes (R160). READ_DIRECTORY: NOT_READY, BAD_ARG, NO_ENTRY, else the entry count, the
lease period and the four bytes of the entry; nothing changes (R163). -/
def Obligations.TheStagingDirectoryIsWrittenAndTheActiveOneRead : Prop :=
  (∀ (s : State) (p : Port) (index unit mode home silence : Byte),
    s.takes p 0x13 [index, unit, mode, home, silence] →
    let b := s.judged p 0x13 [index, unit, mode, home, silence]
    let i : Instr := .loadDirectory p index unit mode home silence
    (b.dsc.part = .loading → exec i s = .next (answers p .notReady b)) ∧
      (b.dsc.part ≠ .loading → (32 ≤ index.toNat ∨ 32 ≤ unit.toNat ∨ 2 ≤ mode.toNat ∨ 2 ≤ home.toNat) →
        exec i s = .next (answers p .badArg b)) ∧
      (∀ k u : Fin 32, b.dsc.part ≠ .loading → index.toNat = k.val → unit.toNat = u.val → mode.toNat ≤ 1 →
        home.toNat ≤ 1 →
        let e : DirEntry := { unit := u, mode := if mode = 0 then .short else .long,
                              home := if home = 0 then .a else .b, silence := silence }
        exec i s = .next (answers p .ok { b with dsc := { b.dsc with staging := b.dsc.staging.set k.val (some e) } }))) ∧
  (∀ (s : State) (p : Port) (index : Byte), s.takes p 0x15 [index] →
    let b := s.judged p 0x15 [index]
    let i : Instr := .readDirectory p index
    (b.dsc.part = .loading → exec i s = .next (answers p .notReady b)) ∧
      (b.dsc.part ≠ .loading → 32 ≤ index.toNat → exec i s = .next (answers p .badArg b)) ∧
      (b.dsc.part ≠ .loading → index.toNat < 32 →
        (∀ d, b.dsc.active = some d → d.entries.length ≤ index.toNat) → exec i s = .next (answers p .noEntry b)) ∧
      (∀ d e, b.dsc.part ≠ .loading → index.toNat < 32 → b.dsc.active = some d → d.entries[index.toNat]? = some e →
        exec i s = .next (respond p
          { code := .ok,
            data := [BitVec.ofNat 8 d.entries.length, d.lease, BitVec.ofNat 8 e.unit.val,
              if e.mode = .long then 1 else 0, if e.home = .b then 1 else 0, e.silence] } b)))

/-- COMMIT_DIRECTORY's refusals in order, each changing nothing (R161 checks 1 to 4): NOT_READY, BAD_ARG, BUSY, and
BAD_ARG with the lowest staging index that is empty or repeats a unit. COMMIT_DIRECTORY accepted: the staged entries
below the count become the active directory, the lease periods take the value and the leases of ACTIVE ports restart
with it, the part is READY and CONFIG_READY is offered to both queues (R161). -/
def Obligations.CommitDirectoryActivatesACheckedDirectory : Prop :=
  (∀ (s : State) (p : Port) (count lease : Byte), s.takes p 0x14 [count, lease] →
    let b := s.judged p 0x14 [count, lease]
    let i : Instr := .commitDirectory p count lease
    let busy := (∃ u, (b.ctx u).state ≠ .idle) ∨ b.rcm.deferred ≠ []
    let bad := fun (k : Fin 32) => b.dsc.staging[k.val] = none ∨
      ∃ (j : Fin 32) (e f : DirEntry), j < k ∧ b.dsc.staging[j.val] = some e ∧ b.dsc.staging[k.val] = some f ∧
        e.unit = f.unit
    (b.dsc.part = .loading → exec i s = .next (answers p .notReady b)) ∧
      (b.dsc.part ≠ .loading → (32 < count.toNat ∨ lease = 0) → exec i s = .next (answers p .badArg b)) ∧
      (b.dsc.part ≠ .loading → count.toNat ≤ 32 → lease ≠ 0 → busy → exec i s = .next (answers p .busy b)) ∧
      (∀ k : Fin 32, b.dsc.part ≠ .loading → count.toNat ≤ 32 → lease ≠ 0 → ¬ busy → k.val < count.toNat → bad k →
        (∀ j : Fin 32, j < k → ¬ bad j) →
        exec i s = .next (respond p { code := .badArg, data := [BitVec.ofNat 8 k.val] } b))) ∧
  (∀ (s : State) (p : Port) (count lease : Byte) (es : List DirEntry), s.takes p 0x14 [count, lease] →
    let b := s.judged p 0x14 [count, lease]
    b.dsc.part ≠ .loading → lease ≠ 0 → es.length = count.toNat → count.toNat ≤ 32 →
    (∀ k : Fin 32, k.val < count.toNat → b.dsc.staging[k.val] = es[k.val]?) → (es.map DirEntry.unit).Nodup →
    (∀ u, (b.ctx u).state = .idle) → b.rcm.deferred = [] →
    ∃ t, exec (.commitDirectory p count lease) s = .next (answers p .ok t) ∧ sameButPortsAndQueues b t ∧
      t.dsc = { b.dsc with part := .ready, active := some { entries := es, lease := lease } } ∧
      ∀ x, noticeOffered x .configReady none b t ∧
        t.port x = { b.port x with
          leasePeriod := lease, noticeLost := (t.port x).noticeLost,
          lease := if (b.port x).state = .active then .running (lease.toNat * 10000) else (b.port x).lease })

/-- PART_RESET: NOT_READY in LOADING; agreed with OK when the peer is LAPSED or its stamp set, whereupon the peer's receiver
ignores frames and the lease and stamp timers stop, every stamp staying set or void as it was and the ports staying as they are
in all else; otherwise PENDING with the issuer's stamp set afresh (R164 to R166). -/
def Obligations.PartResetAgreesOrStampsTheRequest : Prop :=
  ∀ (s : State) (p : Port), s.takes p 0x12 [] →
    let b := s.judged p 0x12 []
    (b.dsc.part = .loading → exec (.partReset p) s = .next (answers p .notReady b)) ∧
      (b.dsc.part ≠ .loading → (b.port p.peer).state = .active → (b.port p.peer).stamp = .void →
        exec (.partReset p) s = .next (answers p .pending (b.modPort p (fun x =>
          { x with stamp := .set (.running ((b.port p).leasePeriod.toNat * 10000)) })))) ∧
      (b.dsc.part ≠ .loading → ((b.port p.peer).state = .lapsed ∨ (b.port p.peer).stamp ≠ .void) →
        ∃ t, exec (.partReset p) s = .next (answers p .ok t) ∧ t.dsc = { b.dsc with agreed := some p } ∧
          (∀ x, t.port x = { b.port x with
            lease := .stopped, stamp := (match (b.port x).stamp with | .void => .void | .set _ => .set .stopped),
            receiver := if x = p then (b.port p).receiver
              else { state := .ignoring, bytes := [], count := 0, response := none } }) ∧
          t.ctb = b.ctb ∧ t.lnk = b.lnk ∧ t.rcm = b.rcm ∧ t.str = b.str ∧ t.pending = b.pending)

/-- From the agreement of a part reset until it is taken no port executes a command: a frame completed then is discarded
unanswered (R166, R181; the receiver's state afterwards is log 13). -/
def Obligations.NoCommandRunsInTheAgreementWindow : Prop :=
  ∀ (c : Instr) (p : Port) (code : Byte) (args : List Byte) (s : State),
    rowFrame c = some (p, code, args) → c.wellFormed = true → s.canTake p (commandFrame code args) = true →
    s.dsc.agreed ≠ none →
    exec c s = .next (s.modPort p (fun x =>
      { x with receiver := { state := .ignoring, bytes := [], count := 0, response := none } }))

/-! ### The port timers -/

/-- A lease expiry of an ACTIVE port: LAPSED, the timer stopped, the lapse count up to 255, the adopted-away count 0,
and PEER_LAPSED offered to the peer; nothing else changes (R138). The expiry of a running stamp timer makes the
stamp void, and nothing else changes (R164). -/
def Obligations.ThePortTimersLapseThePortAndVoidTheStamp : Prop :=
  (∀ (s : State) (p : Port), (s.port p).lease.runs = true → (s.port p).state = .active →
    ∃ t, exec (.leaseExpiry p) s = .next t ∧ sameButPortsAndQueues s t ∧ t.dsc = s.dsc ∧
      t.port p = { s.port p with state := .lapsed, lease := .stopped, adoptedAway := 0,
                                 lapseCount := min 255 ((s.port p).lapseCount + 1) } ∧
      noticeOffered p.peer .peerLapsed none s t ∧ t.queue p = s.queue p ∧ t.seqNo p = s.seqNo p ∧
      t.port p.peer = { s.port p.peer with noticeLost := (t.port p.peer).noticeLost }) ∧
  (∀ (s : State) (p : Port) (us : Nat), (s.port p).stamp = .set (.running us) →
    exec (.stampExpiry p) s = .next (s.modPort p (fun x => { x with stamp := .void })))

/-! ### The unit link: grants -/

/-- A halt selection is granted first, whenever the stop queue is not empty in OPEN: its head leaves the queue for
SELECTING, its silence timer stops, and SEL with code FFh goes out (R76, R83, R89, R91). A recall is granted next,
to the oldest deferred unit whose target queue has room; units ahead of it whose targets are full are passed over;
the unit stays on the list, and the silence timer of its DISCONNECTED context stops (R78, R89, R91, R108, R127). That a grant
row which is not the grant LNK would make changes nothing is the model's (log 6). -/
def Obligations.HaltSelectionsAndRecallsAreGrantedFirst : Prop :=
  (∀ s : State,
    (∀ u rest, s.lnk.link = .opened → s.ctb.stopQ = u :: rest →
        exec .haltSelectionGrant s = .next (((forgets u s).modStopQ (fun _ => rest)).modCtx u (fun x =>
            { x with state := .selecting, silence := .stopped, stopQueued := false }) |>.modLnk
          (granted (opened .haltSelection .haltSelection (some u) (.sel u 0xFF .short .none)) .haltSelection))) ∧
      ((s.lnk.link ≠ .opened ∨ s.ctb.stopQ = []) → exec .haltSelectionGrant s = .next s)) ∧
  (∀ s : State,
    (∀ pre u post, s.lnk.link = .opened → s.ctb.stopQ = [] → s.rcm.deferred = pre ++ u :: post →
        (∀ v ∈ pre, ¬ recallable s v) → recallable s u →
        exec .recallGrant s = .next (((forgets u s).modCtx u (fun x =>
            { x with silence := if x.state = .disconnected then .stopped else x.silence })).modLnk
          (granted (opened .recall .recall (some u) (.rcl u)) .recall))) ∧
      ((s.lnk.link ≠ .opened ∨ s.ctb.stopQ ≠ [] ∨ ∀ v ∈ s.rcm.deferred, ¬ recallable s v) →
        exec .recallGrant s = .next s))

/-- A poll is granted while SRQ is asserted, after halt selections and recalls, alternating with selections (R77, R89,
R90). A selection is granted last, to the head of the select queue: it enters SELECTING, and the SEL carries its
order code, its mode and the direction of its kind (R5, R6, R65, R75, R89, R91). That a grant row which is not the grant LNK
would make changes nothing is the model's (log 6). -/
def Obligations.PollsAndSelectionsAreGrantedInTurn : Prop :=
  (∀ s : State,
    (s.lnk.link = .opened → s.ctb.stopQ = [] → (∀ v ∈ s.rcm.deferred, ¬ recallable s v) → pollWanted s →
        exec .pollGrant s = .next (s.modLnk (granted (opened .poll .poll none .poll) .poll))) ∧
      ((s.lnk.link ≠ .opened ∨ s.ctb.stopQ ≠ [] ∨ (∃ v ∈ s.rcm.deferred, recallable s v) ∨ ¬ pollWanted s) →
        exec .pollGrant s = .next s)) ∧
  (∀ s : State,
    (∀ u rest d e, s.lnk.link = .opened → s.ctb.stopQ = [] → (∀ v ∈ s.rcm.deferred, ¬ recallable s v) →
        ¬ pollWanted s → s.ctb.selectQ = u :: rest → (s.ctx u).desc = some d → s.entry u = some e →
        let dir : Direction := if d.kind = .input then .input else if d.kind = .output then .output else .none
        exec .selectionGrant s = .next (((forgets u s).modSelectQ (fun _ => rest)).modCtx u (fun x =>
            { x with state := .selecting, silence := .stopped, stopQueued := false }) |>.modLnk
          (granted (opened .selection .selection (some u) (.sel u d.code e.mode dir)) .selection))) ∧
      ((s.lnk.link ≠ .opened ∨ s.ctb.stopQ ≠ [] ∨ (∃ v ∈ s.rcm.deferred, recallable s v) ∨ pollWanted s ∨
        s.ctb.selectQ = []) → exec .selectionGrant s = .next s))

/-! ### The unit link: frames sent, frames started, timers -/

/-- The end of a frame LNK sends: SEL, POLL, RCL, DAT and NAK start the reply timer at 100 us; after any other the
exchange ends, in HOLD with the gap timer at 2 ms when a LONG connection holds the link, in OPEN when none does, unless a frame
follows it in the same exchange, which is sent next (R70 to R72, R79, R80, R85). The end of a SHORT-mode exchange that did not
end its order: the context is DISCONNECTED again, its silence timer started with the full limit, on the stop queue if a halt
request is set (R7, R9, R15, R97 step 4). The end of a recall exchange: the silence timer of a DISCONNECTED context starts
again (R108). LNK sends only while no frame is being received (R72): until that frame's end its own frame is not on the pair,
and its FRAME_SENT does nothing (log 28). -/
def Obligations.AFrameSentStartsTheReplyTimerOrEndsTheExchange : Prop :=
  (∀ (s : State) (e : Exchange), s.lnk.link = .exchange → s.lnk.exchange = some e → e.sending = true →
    s.lnk.reception = .none → e.more = [] →
    (((∃ u c m d, e.frame = .sel u c m d) ∨ e.frame = .poll ∨ (∃ u, e.frame = .rcl u) ∨ (∃ u bs, e.frame = .dat u bs) ∨
          ∃ u, e.frame = .nak u) →
        exec .frameSent s = .next { s with lnk := { s.lnk with exchange := some { e with sending := false },
                                                               replyTimer := .running 100 } }) ∧
      (∀ u, (e.frame = .ack u ∨ e.frame = .tak u ∨ e.frame = .dfr u ∨ ∃ f, e.frame = .stp f u) → s.lnk.conn = some u →
        exec .frameSent s = .next { s with lnk := { s.lnk with link := .hold, exchange := none, replyTimer := .stopped,
                                                               gapTimer := .running 2000 } }) ∧
      (∀ u v, (e.frame = .ack u ∨ e.frame = .tak u ∨ e.frame = .dfr u ∨ ∃ f, e.frame = .stp f u) → s.lnk.conn = none →
        e.unit = some v → (s.ctx v).state ≠ .connected → e.opener ≠ some .recall →
        exec .frameSent s = .next { s with lnk := { s.lnk with link := .opened, exchange := none, replyTimer := .stopped,
                                                               gapTimer := .stopped } })) ∧
  (∀ (s : State) (e : Exchange) (f : CtlFrame) (fs : List CtlFrame), s.lnk.link = .exchange → s.lnk.exchange = some e →
    e.sending = true → s.lnk.reception = .none → e.more = f :: fs →
    exec .frameSent s = .next { s with lnk := { s.lnk with exchange := some { e with frame := f, more := fs } } }) ∧
  (∀ (s : State) (e : Exchange) (u : UnitAddr), s.lnk.link = .exchange → s.lnk.exchange = some e →
    e.sending = true → s.lnk.reception = .none → e.more = [] → e.frame.callsForReply = false → s.lnk.conn = none →
    e.unit = some u → e.opener = some .poll → (s.ctx u).state = .connected → (s.ctx u).stopQueued = false →
    exec .frameSent s = .next ((shortOver u s).modLnk (fun l =>
      { l with link := .opened, exchange := none, replyTimer := .stopped, gapTimer := .stopped }))) ∧
  (∀ (s : State) (e : Exchange) (u : UnitAddr), s.lnk.link = .exchange → s.lnk.exchange = some e →
    e.sending = true → s.lnk.reception = .none → e.more = [] → e.frame.callsForReply = false → s.lnk.conn = none →
    e.unit = some u → e.opener = some .recall →
    exec .frameSent s = .next ((silenceRestarted u s).modLnk (fun l =>
      { l with link := .opened, exchange := none, replyTimer := .stopped, gapTimer := .stopped }))) ∧
  (∀ (s : State) (e : Exchange), s.lnk.link = .exchange → s.lnk.exchange = some e → e.sending = true → s.dsc.phase = .none →
    (s.lnk.reception = .none → s.linkPair = .sends e.frame) ∧
      (s.lnk.reception ≠ .none → s.linkPair = .driverOff ∧ exec .frameSent s = .next s))

/-- The start of a frame while the reply or gap timer runs stops it, and the frame is awaited; at any other time the frame is
ignored, and its end changes nothing else (R64, R72, R79). While a reset is in progress the link is disregarded (R187). -/
def Obligations.AFrameIsHeardOnlyWhileATimerRuns : Prop :=
  (∀ s : State, s.dsc.phase = .none → s.lnk.replyTimer.runs = true ∨ s.lnk.gapTimer.runs = true →
      exec .frameStart s =
        .next { s with lnk := { s.lnk with reception := .awaited, replyTimer := .stopped, gapTimer := .stopped } }) ∧
    (∀ s : State, s.lnk.replyTimer = .stopped → s.lnk.gapTimer = .stopped → s.lnk.reception ≠ .awaited →
      (s.dsc.phase = .none → exec .frameStart s = .next { s with lnk := { s.lnk with reception := .ignored } }) ∧
        ∀ c : Instr, (∃ a st, c = .rsp a st) ∨ (∃ a m d, c = .reqInData a m d) ∨ (∃ a m, c = .reqOutData a m) ∨
            (∃ a m st, c = .reqStatus a m st) ∨ (∃ a b, c = .reqRepeat a b) ∨ (∃ a, c = .ack a) ∨ (∃ a, c = .nak a) ∨
            c = .corruptFrame →
          exec c s = .next { s with lnk := { s.lnk with reception := .none } }) ∧
    (∀ s : State, s.dsc.phase ≠ .none → exec .frameStart s = .next s)

/-- A try of SEL, RCL or DAT with no reply is followed by the same frame again while fewer than three were used (R72,
R73), a missing resend after NAK by the NAK again (R74), and a POLL without a reply ends with no effect (R77). The
gap timer expires: LINK_FAULT ends the order, its record, dropped, placed or held, has no unit status and the segment's
residual (0 without a segment: log 11), STP in the abandon form goes out once, and the LONG connection ends (R79, R83, R102);
while that STP is sent the link is in EXCHANGE (log 7). The silence timer of a DISCONNECTED context expires: the halt request is
set with cause TIMEOUT and the context joins the stop queue; with a request already set only the timer stops (R9, R12,
R108). -/
def Obligations.TheLinkTimersRetryEndOrHaltAnOrder : Prop :=
  (∀ (s : State) (e : Exchange) (u : UnitAddr), s.lnk.exchange = some e → s.lnk.replyTimer.runs = true → e.tries < 3 →
    let again := { e with tries := e.tries + 1, sending := true }
    (e.unit = some u → (e.kind = .selection ∨ e.kind = .haltSelection ∨ e.kind = .recall ∨ e.kind = .dataOut ∨
          (e.kind = .request ∧ e.tries < 2)) →
        exec .replyTimerExpiry s = .next { s with lnk := { s.lnk with
          link := .exchange, exchange := some again, replyTimer := .stopped, gapTimer := .stopped } }) ∧
      (e.kind = .poll → exec .replyTimerExpiry s = .next { s with lnk := { s.lnk with
          link := .opened, exchange := none, conn := none, replyTimer := .stopped, gapTimer := .stopped } })) ∧
  (∀ (s : State) (u : UnitAddr) (p : Port) (a : Word), s.lnk.gapTimer.runs = true → s.lnk.conn = some u →
    (s.ctx u).state = .connected → (s.ctx u).descAddr = some a → (s.ctx u).owner = some p →
    ∃ t, exec .gapTimerExpiry s = .next t ∧ abandons u (some { kind := .status, frame := .stp .abandon u }) t ∧
      ended u p
        { unit := u, owner := p, lastDesc := a, resume := a + 8,
          residual := (match (s.ctx u).seg with | some g => g.remaining | none => 0),
          conds := closedWith (s.ctx u) { (s.ctx u).conds with linkFault := true }, status := none } s t) ∧
  (∀ (s : State) (u : UnitAddr), (s.ctx u).silence.runs = true → (s.ctx u).state = .disconnected →
    ((s.ctx u).halt = none → (s.ctx u).stopQueued = false →
        exec (.silenceTimerExpiry u) s = .next ((s.modStopQ (fun l => l ++ [u])).modCtx u (fun x =>
          { x with silence := .stopped, halt := some .timeout, stopQueued := true }))) ∧
      ((s.ctx u).halt ≠ none → (s.ctx u).stopQueued = true →
        exec (.silenceTimerExpiry u) s = .next (s.modCtx u (fun x => { x with silence := .stopped }))))

/-! ### The unit link: replies to a selection -/

/-- An RSP with an empty status accepts a LONG selection: CONNECTED, the link in HOLD with the gap timer, and the first
segment of an IN or OUT order current with its page counted, or, when its page check fails, STORE_FAULT and a halt
request (R6, R31, R75, R92). With 16 bytes or fewer in the segment of an IN order with link NEXT_SEGMENT, and no halt request, the
SEG is looked ahead at once (R34, R35). Status bits 7 to 5 are ignored (R186). An RSP with an empty status accepts a SHORT
selection: DISCONNECTED with the silence timer started, on the stop queue if a halt request is set, and the link
OPEN (R6, R9, R15, R75, R93). -/
def Obligations.AnEmptyRspAcceptsASelection : Prop :=
  (∀ (s : State) (e : Exchange) (u : UnitAddr) (p : Port) (d : Descriptor) (addr st : Byte),
    s.awaitsReply e → e.kind = .selection → e.unit = some u → names addr u → st.toNat % 32 = 0 →
    (s.ctx u).state = .selecting → s.mode u = .long → (s.ctx u).owner = some p → (s.ctx u).desc = some d →
    (s.ctx u).seg = none →
    let held := fun (t : State) => t.modLnk (fun l =>
      { l.heard with link := .hold, exchange := none, conn := some u, gapTimer := .running 2000 })
    let page := pageOf d.addr
    let first := { addr := d.addr, remaining := d.count.toNat, page := page : Segment }
    let due := d.kind = .input ∧ d.link = .nextSegment ∧ (s.ctx u).lookahead = .absent ∧ (s.ctx u).halt = none ∧
      d.count.toNat ≤ 16
    (d.kind = .ctrl → exec (.rsp addr st) s = .next (held (s.modCtx u (fun x => { x with state := .connected })))) ∧
      ((d.kind = .input ∨ d.kind = .output) → s.pageOpen p page = true → ¬ due →
        exec (.rsp addr st) s = .next (held ((s.modPage page (fun x => { x with uses := x.uses + 1 })).modCtx u (fun x =>
          { x with state := .connected, seg := some first })))) ∧
      (∀ a, s.pageOpen p page = true → due → (s.ctx u).descAddr = some a →
        let f := fetch (.segment .input) p s (a.toNat + 8)
        exec (.rsp addr st) s = .next (held ((s.modPage page (fun x => { x with uses := x.uses + 1 })).modCtx u (fun x =>
          { x with state := .connected, seg := some first, jumps := f.jumps,
                   lookahead := (match f.found with | some (y, ya) => .present y ya | none => .faulted) })))) ∧
      ((d.kind = .input ∨ d.kind = .output) → s.pageOpen p page = false →
        exec (.rsp addr st) s = .next (held (s.modCtx u (fun x =>
          { x with state := .connected, conds := { x.conds with storeFault := true },
                   halt := some (x.halt.getD .storeFault) }))))) ∧
  (∀ (s : State) (e : Exchange) (u : UnitAddr) (addr st : Byte),
    s.awaitsReply e → e.kind = .selection → e.unit = some u → names addr u → st.toNat % 32 = 0 →
    (s.ctx u).state = .selecting → s.mode u = .short → (s.ctx u).stopQueued = false →
    exec (.rsp addr st) s = .next ((shortOver u s).modLnk (fun l =>
      { l.heard with link := .opened, exchange := none, conn := none })))

/-- An RSP with a status refuses a selection: the order ends with REFUSED, the status in its record and residual 0; the
link is OPEN (R4, R75, R94). The RSP to a halt selection is the order's ending status, whatever its bits: no chain,
the halt cause's condition, LENGTH if bytes were left without LENGTH_OK, and the link OPEN (R6, R12, R43, R76,
R106). The record of either is dropped, placed or held (R10, R13, R117). -/
def Obligations.ARefusalOrAHaltSelectionEndsTheOrder : Prop :=
  (∀ (s : State) (e : Exchange) (u : UnitAddr) (p : Port) (a : Word) (addr st : Byte),
    s.awaitsReply e → e.kind = .selection → e.unit = some u → names addr u → st.toNat % 32 ≠ 0 →
    (s.ctx u).state = .selecting → (s.ctx u).descAddr = some a → (s.ctx u).owner = some p →
    ∃ t, exec (.rsp addr st) s = .next t ∧
      t.lnk = { s.lnk.heard with link := .opened, exchange := none, conn := none } ∧
      ended u p
        { unit := u, owner := p, lastDesc := a, resume := a + 8, residual := 0,
          conds := closedWith (s.ctx u) { (s.ctx u).conds with refused := true }, status := some (BitVec.ofNat 5 st.toNat) } s t) ∧
  (∀ (s : State) (e : Exchange) (u : UnitAddr) (p : Port) (d : Descriptor) (a : Word) (addr st : Byte),
    s.awaitsReply e → e.kind = .haltSelection → e.unit = some u → names addr u → (s.ctx u).state = .selecting →
    (s.ctx u).descAddr = some a → (s.ctx u).desc = some d → (s.ctx u).owner = some p →
    ∃ t, exec (.rsp addr st) s = .next t ∧
      t.lnk = { s.lnk.heard with link := .opened, exchange := none, conn := none } ∧
      ended u p
        { unit := u, owner := p, lastDesc := a, resume := a + 8, residual := leftOver (s.ctx u) d,
          conds := closedWith (s.ctx u) (lengthChecked (s.ctx u) d), status := some (BitVec.ofNat 5 st.toNat) } s t)

/-! ### The unit link: data and status of an order -/

/-- A REQ IN_DATA of an IN order is answered once its bytes are placed; the first one of a SHORT-mode order first makes the
first segment current (R31, R97). One that fits its segment, no lookahead due: the bytes go to the segment's address unless
DISCARD is set, the segment advances, and the answer is ACK, or STP when a halt request is set; every other byte of the store and
everything else stays (R36, R39, R57, R80, R95, R98). One that overruns it, with a halt request or with link END or NEXT_ORDER:
the bytes that fit are placed, the rest dropped, and the answer is STP in the report form; without a halt request LENGTH is
gained unless LENGTH_OK; no halt request is set (R37, R39). With 16 bytes or fewer left once the bytes are placed, no halt
request and link NEXT_SEGMENT, the SEG is looked ahead from the store as it then is: found it is present, else the lookahead is
faulted; the frame is acknowledged in both (R34, R35). An overrun that meets a faulted lookahead: the bytes that fit are placed,
PROGRAM_FAULT, a halt request, STP, the lookahead still faulted (R38). Without a segment every byte is dropped, and STP
(R39). -/
def Obligations.InputBytesArePlacedUpToTheSegmentsEnd : Prop :=
  ∀ (s : State) (u : UnitAddr) (d : Descriptor) (addr : Byte) (data : List Byte),
    s.storeOk → s.hears u → names addr u → 1 ≤ data.length → data.length ≤ 16 →
    let b := s.begun u
    let c := b.ctx u
    let advanced := fun (g : Segment) (n : Nat) =>
      some { g with addr := g.addr + BitVec.ofNat 16 n, remaining := g.remaining - n }
    let answered := fun (t : State) (f : CtlFrame) (x : Context) (placed : List Byte) (at_ : Word) =>
      exec (.reqInData addr false data) s = .next t ∧ answering .dataIn .inData u f s t ∧ viaPoll s t ∧
        t.lnk.conn = s.lnk.conn ∧ (∀ a : StoreAddr, t.byteAt a = placedAt d.discard at_ placed a (s.byteAt a)) ∧
        t.ctb = (b.modCtx u (fun _ => x)).ctb ∧ t.str.pages = b.str.pages ∧ t.ports = s.ports ∧ t.rcm = s.rcm ∧
        t.dsc = s.dsc ∧ t.pending = s.pending
    c.desc = some d → d.kind = .input →
    (∀ g, c.seg = some g → g.fits → data.length ≤ g.remaining →
        (d.link ≠ .nextSegment ∨ c.lookahead ≠ .absent ∨ c.halt ≠ none ∨ 16 < g.remaining - data.length) →
        ∃ t, answered t (if c.halt = none then .ack u else .stp .report u) { c with seg := advanced g data.length } data
          g.addr) ∧
      (∀ g, c.seg = some g → g.fits → g.remaining < data.length →
        (c.halt ≠ none ∨ (d.link ≠ .nextSegment ∧ c.lookahead = .absent)) →
        ∃ t, answered t (.stp .report u)
          { c with seg := advanced g g.remaining,
                   conds := { c.conds with length := c.conds.length || (decide (c.halt = none) && !d.lengthOk) } }
          (data.take g.remaining) g.addr) ∧
      (∀ g p a, c.seg = some g → g.fits → data.length ≤ g.remaining → g.remaining - data.length ≤ 16 → c.owner = some p →
        c.descAddr = some a → d.link = .nextSegment → c.halt = none → c.lookahead = .absent →
        let f := fetch (.segment .input) p (if d.discard then b else b.writeBytes g.addr data) (a.toNat + 8)
        ∃ t, answered t (.ack u)
          { c with seg := advanced g data.length, jumps := f.jumps,
                   lookahead := (match f.found with | some (y, ya) => .present y ya | none => .faulted) } data g.addr) ∧
      (∀ g, c.seg = some g → g.fits → g.remaining < data.length → c.halt = none → c.lookahead = .faulted →
        ∃ t, answered t (.stp .report u)
          { c with seg := advanced g g.remaining, conds := { c.conds with programFault := true },
                   halt := some .storeFault } (data.take g.remaining) g.addr) ∧
      (c.seg = none → ∃ t, answered t (.stp .report u) c [] 0)

/-- A frame that overruns its segment with a SEG looked ahead switches to it: the new page is checked and counted before the
old one is let go, the SEG's address, link and flags take over, the bytes left, which fit it and make no further lookahead
due, go to the new segment, and the SEG's MILESTONE is offered (R31 to R33, R36, R130); with the page check failed the switch
is not made: STORE_FAULT, a halt request, the lookahead absent, STP (R38). Whatever the bytes left do, they are taken in the
new segment as a frame of their own would be: the state after the switch, its SEG's own lookahead taken when it is due, is the
one that frame meets, so a frame may span any number of segments and every form of InputBytesArePlacedUpToTheSegmentsEnd can
follow (R34, R36). -/
def Obligations.AnInputSwitchMovesToTheLookahead : Prop :=
  ∀ (s : State) (u : UnitAddr) (p : Port) (d x : Descriptor) (xa : Word) (g : Segment) (addr : Byte) (data : List Byte),
    s.storeOk → s.hears u → names addr u → data.length ≤ 16 →
    let b := s.begun u
    let c := b.ctx u
    c.owner = some p → c.desc = some d → d.kind = .input → d.link = .nextSegment → c.seg = some g →
    g.remaining < data.length → g.fits → c.halt = none → c.lookahead = .present x xa → x.areaFits → x.kind = .seg →
    let page := pageOf x.addr
    let left := data.drop g.remaining
    let usesAfter := fun (t : State) => ∀ q, (t.page q).tag = (b.page q).tag ∧ (t.page q).uses =
      (b.page q).uses + (if q = page then 1 else 0) - (if q = g.page then 1 else 0)
    let rest := fun (t : State) => (∀ v, v ≠ u → t.ctx v = b.ctx v) ∧ t.ctb.selectQ = b.ctb.selectQ ∧
      t.ctb.stopQ = b.ctb.stopQ ∧ t.ports = s.ports ∧ t.dsc = s.dsc ∧ t.pending = s.pending
    (b.pageOpen p page = true → left.length ≤ x.count.toNat →
        (x.link ≠ .nextSegment ∨ 16 < x.count.toNat - left.length) →
        ∃ t, exec (.reqInData addr false data) s = .next t ∧ answering .dataIn .inData u (.ack u) s t ∧ viaPoll s t ∧
          t.lnk.conn = s.lnk.conn ∧
          t.ctx u = { c with
            desc := some { x with kind := .input, code := d.code }, descAddr := some xa, lookahead := .absent,
            seg := some { addr := x.addr + BitVec.ofNat 16 left.length, remaining := x.count.toNat - left.length,
                          page := page },
            milestoneMissed := (t.ctx u).milestoneMissed } ∧
          rest t ∧ milestoneOffered x.milestone u p xa b t ∧ usesAfter t ∧
          (∀ a : StoreAddr, t.byteAt a = placedAt x.discard x.addr left a
            (placedAt d.discard g.addr (data.take g.remaining) a (s.byteAt a)))) ∧
      (b.pageOpen p page = true →
        let w := if d.discard then b else b.writeBytes g.addr (data.take g.remaining)
        let f := fetch (.segment .input) p w (xa.toNat + 8)
        let due := x.link = .nextSegment ∧ x.count.toNat ≤ 16
        ∃ m, exec (.reqInData addr false data) s =
            exec (.reqInData addr false left) (m.modCtx u (fun y => { y with state := (s.ctx u).state })) ∧
          m.lnk = s.lnk ∧
          m.ctx u = { c with
            desc := some { x with kind := .input, code := d.code }, descAddr := some xa,
            lookahead := (if due then (match f.found with | some (y, ya) => .present y ya | none => .faulted) else .absent),
            jumps := (if due then f.jumps else c.jumps),
            seg := some { addr := x.addr, remaining := x.count.toNat, page := page },
            milestoneMissed := (m.ctx u).milestoneMissed } ∧
          rest m ∧ milestoneOffered x.milestone u p xa b m ∧ usesAfter m ∧
          (∀ a : StoreAddr, m.byteAt a = placedAt d.discard g.addr (data.take g.remaining) a (s.byteAt a))) ∧
      (b.pageOpen p page = false →
        ∃ t, exec (.reqInData addr false data) s = .next t ∧ answering .dataIn .inData u (.stp .report u) s t ∧ viaPoll s t ∧
          t.lnk.conn = s.lnk.conn ∧
          t.ctx u = { c with
            lookahead := .absent, conds := { c.conds with storeFault := true }, halt := some .storeFault,
            seg := some { g with addr := g.addr + BitVec.ofNat 16 g.remaining, remaining := 0 } } ∧
          rest t ∧ t.str.pages = b.str.pages ∧ t.rcm = s.rcm ∧
          (∀ a : StoreAddr, t.byteAt a = placedAt d.discard g.addr (data.take g.remaining) a (s.byteAt a)))

/-- A REQ OUT_DATA of an OUT order, the first one of a SHORT-mode order once it has made the first segment current (R31, R97):
with bytes left and no halt request it is answered with a DAT of the smaller of 16 and the remaining count, read from the
segment; the segment does not move yet, and the DAT has three tries of its own (R40, R73, R81). With a halt request set, or
without a current segment, it is answered STP in the report form and the answer memory entry is empty (R31, R83, R95). -/
def Obligations.OutputBytesAreReadWhenAskedFor : Prop :=
  ∀ (s : State) (u : UnitAddr) (d : Descriptor) (addr : Byte) (mark : Bool),
    s.hears u → names addr u →
    let b := s.begun u
    let c := b.ctx u
    c.desc = some d → d.kind = .output →
    (∀ g, c.seg = some g → 0 < g.remaining → g.fits → c.halt = none →
        ∃ (x : Exchange) (bs : List Byte), exec (.reqOutData addr mark) s = .next { b with lnk := { s.lnk.heard with
            link := .exchange, exchange := some x } } ∧
          x.kind = .dataOut ∧ x.unit = some u ∧ x.frame = .dat u bs ∧ x.tries = 1 ∧ x.sending = true ∧ x.more = [] ∧
          (s.lnk.link = .hold → x.corrupt = false ∧ x.opener = none) ∧
          (∀ e, s.awaitsReply e → e.kind = .poll → x.corrupt = false ∧ x.opener = some .poll) ∧
          (∀ e, s.awaitsReply e → e.kind = .request → x.corrupt = e.corrupt ∧ x.opener = none) ∧
          bs.length = min 16 g.remaining ∧
          ∀ i, i < bs.length → bs[i]? = some (s.byteAt (BitVec.ofNat 15 (g.addr.toNat + i)))) ∧
      (c.halt ≠ none ∨ c.seg = none →
        ∃ t, exec (.reqOutData addr mark) s = .next t ∧ t.answer u = none ∧ sendsTo u (.stp .report u) t ∧ viaPoll s t ∧
          t.lnk.conn = s.lnk.conn ∧ t.ctb = b.ctb ∧ t.str = b.str ∧ t.ports = s.ports ∧ t.rcm = s.rcm ∧ t.dsc = s.dsc ∧
          t.pending = s.pending)

/-- A REQ OUT_DATA with no byte left and no halt request: with link END or NEXT_ORDER, LENGTH unless LENGTH_OK, and STP in the
report form; with NEXT_SEGMENT the next SEG is fetched and becomes current, its page counted, its MILESTONE offered, and its
first bytes go out in a DAT; a failed fetch or page check is PROGRAM_FAULT or STORE_FAULT with a halt request, and STP
(R28, R31 to R33, R41, R130). -/
def Obligations.AnExhaustedOutputSegmentStopsOrSwitches : Prop :=
  ∀ (s : State) (u : UnitAddr) (p : Port) (d : Descriptor) (a : Word) (g : Segment) (addr : Byte) (mark : Bool),
    s.hears u → names addr u →
    let b := s.begun u
    let c := b.ctx u
    c.owner = some p → c.desc = some d → c.descAddr = some a →
    d.kind = .output → c.seg = some g → g.remaining = 0 → c.halt = none →
    let f := fetch (.segment .output) p b (a.toNat + 8)
    let sends := fun (t : State) (h : CtlFrame) => sendsTo u h t ∧ viaPoll s t ∧ t.lnk.conn = s.lnk.conn
    let stops := fun (x : Context) => ∃ t, exec (.reqOutData addr mark) s = .next t ∧ sends t (.stp .report u) ∧
      t.answer u = none ∧ t.ctb = (b.modCtx u (fun _ => x)).ctb ∧ t.str = b.str ∧ t.ports = s.ports ∧ t.rcm = s.rcm ∧
      t.dsc = s.dsc ∧ t.pending = s.pending
    (d.link ≠ .nextSegment → stops { c with conds := { c.conds with length := c.conds.length || !d.lengthOk } }) ∧
      (d.link = .nextSegment → f.found = none → stops { c with
        jumps := f.jumps, conds := { c.conds with programFault := true }, halt := some .storeFault }) ∧
      (∀ x xa, d.link = .nextSegment → f.found = some (x, xa) → b.pageOpen p (pageOf x.addr) = false → stops { c with
        jumps := f.jumps, conds := { c.conds with storeFault := true }, halt := some .storeFault,
        lookahead := .absent }) ∧
      (∀ x xa, d.link = .nextSegment → f.found = some (x, xa) → b.pageOpen p (pageOf x.addr) = true →
        ∃ (t : State) (bs : List Byte), exec (.reqOutData addr mark) s = .next t ∧ sends t (.dat u bs) ∧
          (∃ e ∈ t.lnk.exchange, e.kind = .dataOut ∧ e.tries = 1) ∧
          bs.length = min 16 x.count.toNat ∧
          (∀ i, i < bs.length → bs[i]? = some (s.byteAt (BitVec.ofNat 15 (x.addr.toNat + i)))) ∧
          t.ctx u = { c with
            jumps := f.jumps, desc := some { x with kind := .output, code := d.code }, descAddr := some xa,
            lookahead := .absent, seg := some { addr := x.addr, remaining := x.count.toNat, page := pageOf x.addr },
            milestoneMissed := (t.ctx u).milestoneMissed } ∧
          (∀ v, v ≠ u → t.ctx v = b.ctx v) ∧ milestoneOffered x.milestone u p xa b t ∧
          (∀ q, (t.page q).tag = (b.page q).tag ∧ (t.page q).uses =
            (b.page q).uses + (if q = pageOf x.addr then 1 else 0) - (if q = g.page then 1 else 0)) ∧
          t.str.store = s.str.store ∧ t.ports = s.ports ∧ t.dsc = s.dsc ∧ t.pending = s.pending)

/-- A unit's reply to a DAT: ACK advances the segment by the DAT's length and ends the exchange, in HOLD for a LONG connection; for
an exchange that a POLL opened in OPEN, the context DISCONNECTED again with a fresh silence timer (R7, R9, R97 step 4). NAK sends
the same bytes again while tries are left (R40, R73, R81). -/
def Obligations.AnAckAdvancesTheSegmentAndANakResends : Prop :=
  ∀ (s : State) (e : Exchange) (u : UnitAddr) (bs : List Byte) (g : Segment) (addr : Byte),
    s.awaitsReply e → e.kind = .dataOut → e.unit = some u → e.frame = .dat u bs → names addr u →
    (s.ctx u).seg = some g →
    let moved := (forgets u s).modCtx u (fun x =>
      { x with seg := some { g with addr := g.addr + BitVec.ofNat 16 bs.length, remaining := g.remaining - bs.length } })
    (s.lnk.conn = some u →
        exec (.ack addr) s = .next (moved.modLnk (fun l =>
          { l.heard with link := .hold, exchange := none, gapTimer := .running 2000 }))) ∧
      (s.lnk.conn = none → e.opener = some .poll → (s.ctx u).state = .connected → (s.ctx u).stopQueued = false →
        exec (.ack addr) s = .next ((shortOver u moved).modLnk (fun l => { l.heard with link := .opened, exchange := none }))) ∧
      (e.tries < 3 →
        exec (.nak addr) s = .next { s with lnk := { s.lnk.heard with
          exchange := some { e with tries := e.tries + 1, sending := true } } })

/-- A REQ STATUS of an order that does not continue a chain (endsChain) is its ending status and is answered TAK: the order ends,
LENGTH gained for bytes left without LENGTH_OK, its record dropped, placed or held, and no LONG connection holds the link (R10,
R13, R42, R43, R45, R82, R100, R101). It is so in a LONG connection, in HOLD or after NAK (R74, R79), and for the unit of a
DISCONNECTED context that is polled, the link serving it for that one exchange (R8, R77, R97). The ending status is taken even
when the owner's queue is full: the record is held, the context enters HELD and joins the tail of the held list (R11, R82,
R117). -/
def Obligations.AnEndingStatusEndsTheOrderWithItsRecord : Prop :=
  ∀ (s : State) (u : UnitAddr) (p : Port) (d : Descriptor) (a : Word) (addr st : Byte),
    s.hears u → names addr u → (s.ctx u).desc = some d → (s.ctx u).descAddr = some a → (s.ctx u).owner = some p →
    endsChain (s.ctx u) d st →
    ∃ t, exec (.reqStatus addr false st) s = .next t ∧ answering .status .status u (.tak u) s t ∧ viaPoll s t ∧
      t.lnk.conn = none ∧
      ended u p
        { unit := u, owner := p, lastDesc := a, resume := a + 8, residual := leftOver (s.ctx u) d,
          conds := closedWith (s.ctx u) (lengthChecked (s.ctx u) d), status := some (BitVec.ofNat 5 st.toNat) }
        (s.served u) t

/-- The chain: an ending status of exactly DONE with link NEXT_ORDER, no conditions, no residual and no halt request, whose next
descriptor passes its fetch, makes the context QUEUED at the select queue's tail with no record of the order that has ended,
its segment's page loses a use, and its MILESTONE, if it carries one, is offered (R10, R30, R32, R33, R45). A fetch that fails
ends the order with PROGRAM_FAULT (R28, R45). It is so in a LONG connection and for a polled unit (R77, R79). -/
def Obligations.AChainContinuesToTheNextOrder : Prop :=
  ∀ (s : State) (u : UnitAddr) (p : Port) (d : Descriptor) (a : Word) (addr st : Byte),
    s.hears u → names addr u → (s.ctx u).desc = some d → d.link = .nextOrder → (s.ctx u).descAddr = some a →
    lengthChecked (s.ctx u) d = {} → (s.ctx u).halt = none → (s.ctx u).owner = some p → st.toNat % 32 = 1 →
    let b := s.served u
    let f := fetch .order p s (a.toNat + 8)
    (∀ x xa, f.found = some (x, xa) →
        ∃ t, exec (.reqStatus addr false st) s = .next t ∧ answering .status .status u (.tak u) s t ∧ viaPoll s t ∧
          t.lnk.conn = none ∧ t.ctb.selectQ = s.ctb.selectQ ++ [u] ∧ t.ctb.stopQ = b.ctb.stopQ ∧
          t.ctx u = { b.ctx u with
            state := .queued, desc := some x, descAddr := some xa, seg := none, lookahead := .absent,
            unitStatus := none, silence := .stopped, jumps := f.jumps,
            milestoneMissed := (t.ctx u).milestoneMissed } ∧
          (∀ v, v ≠ u → t.ctx v = s.ctx v) ∧ milestoneOffered x.milestone u p xa s t ∧
          (∀ q, t.page q = { s.page q with uses := (s.page q).uses - if (s.ctx u).segIn q then 1 else 0 }) ∧
          t.ports = s.ports ∧ t.dsc = s.dsc ∧ t.str.store = s.str.store ∧ t.pending = s.pending) ∧
      (f.found = none →
        ∃ t, exec (.reqStatus addr false st) s = .next t ∧ answering .status .status u (.tak u) s t ∧ viaPoll s t ∧
          t.lnk.conn = none ∧
          ended u p
            { unit := u, owner := p, lastDesc := a, resume := a + 8, residual := leftOver (s.ctx u) d,
              conds := closedWith (s.ctx u) { programFault := true }, status := some (BitVec.ofNat 5 st.toNat) } b t)

/-- What ends an order without its ending status, its record dropped, placed or held, with no unit status and its segment's
residual (0 without a segment: log 11). Three tries of a SEL without an answer: NO_UNIT and the link in OPEN when nothing came
back, LINK_FAULT when a corrupt frame did; three tries of a DAT, or three receptions of a REQ: LINK_FAULT (R73, R74, R81,
R102). A frame of the wrong kind or from the wrong address in reply to SEL or DAT, or in a LONG connection: PROTOCOL (R75,
R76, R79, R81); the model's choices there: a REQ that is such a frame is wrong whether or not it is a repeat (log 31), and a
stray REQ in reply to a SEL or a SHORT-mode DAT has nothing more (log 33). A data REQ of the wrong kind: PROTOCOL, the first
one of a SHORT-mode order once it has made the first segment current (R31, R84, R97). But for NO_UNIT the unit is sent STP in
the abandon form, which is its answer memory entry for the REQ that failed, or for STATUS where none did (R83; log 9); while
it is sent the link is in EXCHANGE (log 7). -/
def Obligations.AFailedExchangeEndsTheOrderWithItsCondition : Prop :=
  let endedBy := fun (u : UnitAddr) (p : Port) (a : Word) (s t : State) (x : Conds) => ended u p
    { unit := u, owner := p, lastDesc := a, resume := a + 8,
      residual := (match (s.ctx u).seg with | some g => g.remaining | none => 0), conds := closedWith (s.ctx u) x,
      status := none } s t
  let order := fun (s : State) (u : UnitAddr) (p : Port) (a : Word) =>
    (s.ctx u).owner = some p ∧ (s.ctx u).descAddr = some a ∧ (s.ctx u).inProgress = true
  let statusStp := fun (u : UnitAddr) => some ({ kind := .status, frame := .stp .abandon u } : Answer)
  (∀ (c : Instr) (s : State) (e : Exchange) (u : UnitAddr) (p : Port) (a : Word), failsTry c e s → e.unit = some u →
    order s u p a →
    ((e.kind = .selection ∨ e.kind = .haltSelection) → e.tries = 3 →
        (c = .replyTimerExpiry → e.corrupt = false → ∃ t, exec c s = .next t ∧
            t.lnk = { s.lnk with link := .opened, exchange := none, conn := none, replyTimer := .stopped,
                                 gapTimer := .stopped } ∧
            endedBy u p a s t { (s.ctx u).conds with noUnit := true }) ∧
          (c = .corruptFrame ∨ e.corrupt = true → ∃ t, exec c s = .next t ∧ abandons u (statusStp u) t ∧
            endedBy u p a s t { (s.ctx u).conds with linkFault := true })) ∧
      (e.kind = .dataOut → e.tries = 3 → ∃ t, exec c s = .next t ∧ abandons u none t ∧
        endedBy u p a s t { (s.ctx u).conds with linkFault := true }) ∧
      (e.kind = .request → e.tries = 2 → ∃ t, exec c s = .next t ∧ abandons u (statusStp u) t ∧
        endedBy u p a s t { (s.ctx u).conds with linkFault := true })) ∧
  (∀ (c : Instr) (f : UnitFrame) (s : State) (e : Exchange) (u : UnitAddr) (p : Port) (a : Word), linkFrame c = some f →
    f ≠ .corrupt → s.awaitsReply e → e.unit = some u → order s u p a →
    ((e.kind = .selection ∨ e.kind = .haltSelection) → (∀ st, f ≠ .rsp u st) →
        ∃ t, exec c s = .next t ∧ abandons u (failureEntry u f) t ∧
          endedBy u p a s t { (s.ctx u).conds with protocol := true }) ∧
      (e.kind = .dataOut → f ≠ .ack u → f ≠ .nak u →
        (s.lnk.conn = none ∨ ∀ v m b, f = .req v m b → v = u ∨ s.entry v ≠ none) →
        ∃ t, exec c s = .next t ∧ abandons u none t ∧ endedBy u p a s t { (s.ctx u).conds with protocol := true })) ∧
  (∀ (c : Instr) (f : UnitFrame) (s : State) (u : UnitAddr) (p : Port) (a : Word), linkFrame c = some f → f ≠ .corrupt →
    s.long u → order s u p a → (∀ v m b, f = .req v m b → v ≠ u ∧ s.entry v ≠ none) →
    ∃ t, exec c s = .next t ∧ abandons u (statusStp u) t ∧ endedBy u p a s t { (s.ctx u).conds with protocol := true }) ∧
  (∀ (s : State) (u : UnitAddr) (p : Port) (d : Descriptor) (a : Word) (addr : Byte),
    s.hears u → names addr u → (s.ctx u).desc = some d → (s.ctx u).descAddr = some a → (s.ctx u).owner = some p →
    let b := s.begun u
    (∀ data, 1 ≤ data.length → data.length ≤ 16 → d.kind ≠ .input →
        ∃ t, exec (.reqInData addr false data) s = .next t ∧
          abandons u (some { kind := .inData, frame := .stp .abandon u }) t ∧
          endedBy u p a b t { (b.ctx u).conds with protocol := true }) ∧
      (d.kind ≠ .output → ∃ t, exec (.reqOutData addr false) s = .next t ∧ abandons u none t ∧
        endedBy u p a b t { (b.ctx u).conds with protocol := true }))

/-- A REQ with the repeat mark whose kind the unit's answer memory holds is answered with the recorded frame again, and nothing
else happens: no byte is placed, no status taken, no notice made; it is so in a LONG connection, after a POLL, and for the
status of a recalled unit (R77 to R79, R83). A marked REQ whose kind the entry does not hold is taken as the same REQ without
the mark; a REQ OUT_DATA always is (R83). -/
def Obligations.ARepeatIsAnsweredFromTheAnswerMemory : Prop :=
  (∀ (s : State) (u : UnitAddr) (addr : Byte) (body : ReqBody) (f : CtlFrame), names addr u →
    (s.long u ∨ s.polls ∨ ∃ e st, s.awaitsReply e ∧ e.kind = .recall ∧ e.unit = some u ∧ body = .status st) →
    ((∃ bs, body = .inData bs ∧ 1 ≤ bs.length ∧ bs.length ≤ 16 ∧ s.answer u = some { kind := .inData, frame := f }) ∨
      ∃ st, body = .status st ∧ s.answer u = some { kind := .status, frame := f }) →
    ∃ e, e.frame = f ∧ e.unit = some u ∧ e.sending = true ∧ e.more = [] ∧ (s.polls → e.opener = some .poll) ∧
      exec (.reqRepeat addr body) s = .next { s with lnk := { s.lnk.heard with link := .exchange, exchange := some e } }) ∧
  (∀ (s : State) (addr : Byte),
    (∀ data, (∀ u f, names addr u → s.answer u ≠ some { kind := .inData, frame := f }) →
        exec (.reqRepeat addr (.inData data)) s = exec (.reqInData addr false data) s ∧
          exec (.reqInData addr true data) s = exec (.reqInData addr false data) s) ∧
      (∀ st, (∀ u f, names addr u → s.answer u ≠ some { kind := .status, frame := f }) →
        exec (.reqRepeat addr (.status st)) s = exec (.reqStatus addr false st) s ∧
          exec (.reqStatus addr true st) s = exec (.reqStatus addr false st) s) ∧
      exec (.reqRepeat addr .outData) s = exec (.reqOutData addr false) s ∧
      exec (.reqOutData addr true) s = exec (.reqOutData addr false) s)

/-- A corrupt frame in HOLD is answered NAK, the first try of the exchange it opens, and empties the unit's answer memory entry;
the resend received corrupt is answered NAK again while tries are left; a corrupt reply to a POLL ends the poll with no effect
(R74, R77, R79, R83). A corrupt reply to SEL, RCL or DAT is a failed try: the same frame is sent again while fewer than three
tries were used (R73). That the exchange so opened is of a kind of its own until its REQ is known is the model's (log 10). -/
def Obligations.ACorruptFrameIsAnsweredNak : Prop :=
  (∀ (s : State) (u : UnitAddr), s.holds u →
      exec .corruptFrame s = .next ((forgets u s).modLnk (fun l =>
        { l.heard with link := .exchange,
                       exchange := some { kind := .request, unit := some u, frame := .nak u, tries := 1, corrupt := true,
                                          opener := none, sending := true, more := [] } }))) ∧
    (∀ (s : State) (e : Exchange) (u : UnitAddr), s.awaitsReply e → e.kind = .request → e.unit = some u → e.tries < 2 →
      exec .corruptFrame s = .next ((forgets u s).modLnk (fun l =>
        { l.heard with exchange := some { kind := .request, unit := some u, frame := .nak u, tries := e.tries + 1,
                                          corrupt := true, opener := none, sending := true, more := [] } }))) ∧
    (∀ (s : State) (e : Exchange), s.awaitsReply e → e.kind = .poll →
      exec .corruptFrame s = .next (s.modLnk (fun l => { l.heard with link := .opened, exchange := none, conn := none }))) ∧
    (∀ (s : State) (e : Exchange) (u : UnitAddr), s.awaitsReply e → e.unit = some u → e.tries < 3 →
      (e.kind = .selection ∨ e.kind = .haltSelection ∨ e.kind = .recall ∨ e.kind = .dataOut) →
      exec .corruptFrame s = .next (s.modLnk (fun l =>
        { l.heard with exchange := some { e with tries := e.tries + 1, corrupt := true, sending := true } })))

/-! ### The unit link: polled units without an order -/

/-- The target port of a unit's status: the owner of its context; for an IDLE unit its home port, or the home port's
peer while the home port is LAPSED (R124). Unsolicited status after a POLL, of a unit with a directory entry whose
context is IDLE, QUEUED or HELD: TAK with an ATTENTION record when its target queue has room and it is not deferred
already; else DFR, and the unit is on the deferred list (R77, R82, R124, R125). -/
def Obligations.UnsolicitedStatusGoesToItsTargetOrIsDeferred : Prop :=
  (∀ (s : State) (u : UnitAddr),
    ((s.ctx u).state ≠ .idle → s.target u = (s.ctx u).owner) ∧
      (∀ x, (s.ctx u).state = .idle → s.entry u = some x → (s.port x.home).state = .active →
        s.target u = some x.home) ∧
      (∀ x, (s.ctx u).state = .idle → s.entry u = some x → (s.port x.home).state = .lapsed →
        s.target u = some x.home.peer)) ∧
  (∀ (s : State) (e : Exchange) (u : UnitAddr) (p : Port) (addr st : Byte),
    s.awaitsReply e → e.kind = .poll → names addr u → s.entry u ≠ none → s.target u = some p →
    ((s.ctx u).state = .idle ∨ (s.ctx u).state = .queued ∨ (s.ctx u).state = .held) →
    (u ∉ s.rcm.deferred → roomIn s p →
        ∃ t, exec (.reqStatus addr false st) s = .next t ∧ answering .status .status u (.tak u) s t ∧
          t.queue p = s.queue p ++ [{ seq := s.seqNo p, body := .attention u (BitVec.ofNat 5 st.toNat) }] ∧
          t.seqNo p = s.seqNo p + 1 ∧ t.rcm.deferred = s.rcm.deferred ∧ t.rcm.heldLists = s.rcm.heldLists ∧
          t.queue p.peer = s.queue p.peer ∧ t.ctb = s.ctb ∧ t.ports = s.ports ∧ t.str = s.str ∧ t.dsc = s.dsc) ∧
      (u ∉ s.rcm.deferred → ¬ roomIn s p →
        ∃ t, exec (.reqStatus addr false st) s = .next t ∧ answering .status .status u (.dfr u) s t ∧
          t.rcm = { s.rcm with deferred := s.rcm.deferred ++ [u] } ∧ t.ctb = s.ctb ∧ t.ports = s.ports ∧ t.str = s.str ∧
          t.dsc = s.dsc) ∧
      (u ∈ s.rcm.deferred →
        ∃ t, exec (.reqStatus addr false st) s = .next t ∧ answering .status .status u (.dfr u) s t ∧
          t.rcm = s.rcm ∧ t.ctb = s.ctb ∧ t.ports = s.ports ∧ t.str = s.str ∧ t.dsc = s.dsc))

/-- A REQ after a POLL from an address with no directory entry is answered STP in the abandon form, and a STRAY_UNIT notice
naming it is offered to both queues; no context is touched (R77, R85). A data REQ after a POLL from a unit with no order on the
link is answered STP in the abandon form, and nothing else happens (R77). A REQ from an address with no directory entry in a
LONG connection, in place of a REQ of its unit or of the reply to a DAT, ends the connection's order with PROTOCOL, and the
notice is offered as well (R74, R79, R81, R85). The model's there: STP goes to the stray address first (log 8), the notice is
offered after the order's record (log 30) and in reply to a DAT too (log 22), the answer memory is not consulted (log 31), and
the link is in EXCHANGE while STP is sent (log 7). -/
def Obligations.AStrayUnitIsAbandonedAndReported : Prop :=
  (∀ (s : State) (u : UnitAddr) (addr st : Byte),
    s.polls → names addr u → s.entry u = none →
    ∃ t, exec (.reqStatus addr false st) s = .next t ∧ answering .status .status u (.stp .abandon u) s t ∧
      sameButPortsAndQueues s { t with lnk := s.lnk } ∧ t.dsc = s.dsc ∧
      ∀ p, noticeOffered p .strayUnit (some u.val) s t ∧
        t.port p = { s.port p with noticeLost := (t.port p).noticeLost }) ∧
  (∀ (c : Instr) (s : State) (u : UnitAddr) (body : ReqBody), linkFrame c = some (.req u false body) → s.polls →
    (∀ st, body ≠ .status st) →
    (s.entry u = none →
        ∃ t, exec c s = .next t ∧ sendsTo u (.stp .abandon u) t ∧ viaPoll s t ∧
          t.answer u = keptAnswer body (.stp .abandon u) ∧ (∀ v, v ≠ u → t.answer v = s.answer v) ∧
          sameButPortsAndQueues s { t with lnk := s.lnk } ∧ t.dsc = s.dsc ∧
          ∀ p, noticeOffered p .strayUnit (some u.val) s t ∧
            t.port p = { s.port p with noticeLost := (t.port p).noticeLost }) ∧
      (s.entry u ≠ none → ((s.ctx u).state = .idle ∨ (s.ctx u).state = .queued ∨ (s.ctx u).state = .held) →
        ∃ t, exec c s = .next t ∧ sendsTo u (.stp .abandon u) t ∧ viaPoll s t ∧
          t.answer u = keptAnswer body (.stp .abandon u) ∧ (∀ v, v ≠ u → t.answer v = s.answer v) ∧
          { t with lnk := s.lnk } = s)) ∧
  (∀ (c : Instr) (s : State) (u v : UnitAddr) (p : Port) (a : Word) (mark : Bool) (body : ReqBody),
    linkFrame c = some (.req v mark body) → v ≠ u → s.entry v = none → (s.ctx u).owner = some p →
    (s.ctx u).descAddr = some a → (s.ctx u).state = .connected → s.lnk.conn = some u →
    (s.long u ∨ ∃ e, s.awaitsReply e ∧ e.kind = .dataOut ∧ e.unit = some u) →
    ∃ t m, exec c s = .next t ∧
      ended u p
        { unit := u, owner := p, lastDesc := a, resume := a + 8,
          residual := (match (s.ctx u).seg with | some g => g.remaining | none => 0),
          conds := closedWith (s.ctx u) { (s.ctx u).conds with protocol := true }, status := none } s m ∧
      sameButPortsAndQueues m { t with lnk := m.lnk } ∧ t.dsc = m.dsc ∧
      (∀ x, noticeOffered x .strayUnit (some v.val) m t ∧
        t.port x = { m.port x with noticeLost := (t.port x).noticeLost }) ∧
      t.lnk.link = .exchange ∧ t.lnk.conn = none ∧ t.lnk.replyTimer = .stopped ∧ t.lnk.gapTimer = .stopped ∧
      (∃ e ∈ t.lnk.exchange, e.unit = some u ∧ e.frame = .stp .abandon v ∧ e.sending = true ∧
        e.more = [.stp .abandon u]) ∧
      t.answer v = keptAnswer body (.stp .abandon v) ∧
      t.answer u = (if s.long u then some { kind := .status, frame := .stp .abandon u } else none))

/-- The unit of a recall answers with its deferred status: TAK, an ATTENTION record and no longer on the deferred list when
its target queue has room, else DFR and to the list's tail (R78, R128). Three tries without an answer, or with corrupt ones,
lose the recall: the unit leaves the list, STRAY_UNIT naming it is offered to both queues, the link is OPEN, and the silence
timer of a DISCONNECTED context starts again (R73, R78, R108, R126). A frame of the wrong kind or address loses it too, STP in
the abandon form goes out, and the order of a DISCONNECTED context ends with PROTOCOL (R78 row 2, R102); what is the model's
there: the record follows the notice (log 30), the link is in EXCHANGE while STP is sent (log 7), the answer memory entry is
that of the unit's own REQ, or STATUS where there is none (log 9), the notice names the recalled unit alone, also when the
wrong frame is a stray REQ (log 33), and a wrong frame that is a repeat is not answered from the answer memory (log 31). -/
def Obligations.ARecallIsAnsweredOrLost : Prop :=
  (∀ (s : State) (e : Exchange) (u : UnitAddr) (p : Port) (addr st : Byte),
    s.awaitsReply e → e.kind = .recall → e.unit = some u → names addr u → s.target u = some p →
    let others := s.rcm.deferred.filter (fun v => v ≠ u)
    (roomIn s p →
        ∃ t, exec (.reqStatus addr false st) s = .next t ∧ answering .status .status u (.tak u) s t ∧
          t.queue p = s.queue p ++ [{ seq := s.seqNo p, body := .attention u (BitVec.ofNat 5 st.toNat) }] ∧
          t.seqNo p = s.seqNo p + 1 ∧ t.rcm.deferred = others ∧ t.rcm.heldLists = s.rcm.heldLists ∧
          t.queue p.peer = s.queue p.peer ∧ t.seqNo p.peer = s.seqNo p.peer ∧ t.ctb = s.ctb ∧ t.ports = s.ports ∧
          t.str = s.str ∧ t.dsc = s.dsc ∧ t.pending = s.pending) ∧
      (¬ roomIn s p →
        ∃ t, exec (.reqStatus addr false st) s = .next t ∧ answering .status .status u (.dfr u) s t ∧
          t.rcm = { s.rcm with deferred := others ++ [u] } ∧ t.ctb = s.ctb ∧ t.ports = s.ports ∧ t.str = s.str ∧
          t.dsc = s.dsc ∧ t.pending = s.pending)) ∧
  (∀ (c : Instr) (s : State) (e : Exchange) (u : UnitAddr),
    failsTry c e s → e.kind = .recall → e.unit = some u → e.tries = 3 →
    ∃ t, exec c s = .next t ∧
      t.lnk = { (if c = .replyTimerExpiry then s.lnk else s.lnk.heard) with
        link := .opened, exchange := none, conn := none, replyTimer := .stopped, gapTimer := .stopped } ∧
      t.rcm.deferred = s.rcm.deferred.filter (fun v => v ≠ u) ∧ t.rcm.heldLists = s.rcm.heldLists ∧
      t.ctb = (silenceRestarted u s).ctb ∧ t.str = s.str ∧ t.dsc = s.dsc ∧ t.pending = s.pending ∧
      ∀ p, noticeOffered p .strayUnit (some u.val) s t ∧
        t.port p = { s.port p with noticeLost := (t.port p).noticeLost }) ∧
  (∀ (c : Instr) (f : UnitFrame) (s : State) (e : Exchange) (u : UnitAddr), linkFrame c = some f → f ≠ .corrupt →
    s.awaitsReply e → e.kind = .recall → e.unit = some u → (∀ m st, f ≠ .req u m (.status st)) →
    ∃ t m, exec c s = .next t ∧ abandons u (failureEntry u f) t ∧
      m.rcm.deferred = s.rcm.deferred.filter (fun v => v ≠ u) ∧ m.rcm.heldLists = s.rcm.heldLists ∧ m.ctb = s.ctb ∧
      m.str = s.str ∧ m.dsc = s.dsc ∧ m.pending = s.pending ∧
      (∀ p, noticeOffered p .strayUnit (some u.val) s m ∧
        m.port p = { s.port p with noticeLost := (m.port p).noticeLost }) ∧
      ((s.ctx u).state ≠ .disconnected → { t with lnk := m.lnk } = m) ∧
      (∀ p a, (s.ctx u).state = .disconnected → (s.ctx u).owner = some p → (s.ctx u).descAddr = some a →
        ended u p
          { unit := u, owner := p, lastDesc := a, resume := a + 8,
            residual := (match (s.ctx u).seg with | some g => g.remaining | none => 0),
            conds := closedWith (s.ctx u) { (s.ctx u).conds with protocol := true }, status := none } m t))

/-! ### Descriptors, frames and check values -/

/-- A fetch yields a descriptor only from an 8-aligned address of a page open to the owner, of a kind that suits its purpose,
with its order code, link, area and flags in their ranges; and it follows at most four JUMPs (R25 to R27). It finds the
descriptor `d` at the address `a` over `n` JUMPs exactly when at most four JUMPs that pass their checks lead there and the eight
bytes stored at `a` read as `d` and pass checks 1 to 7 of R26 (R25 to R27, 11.3). -/
def Obligations.AFetchYieldsOnlyCheckedDescriptors : Prop :=
  ∀ (purpose : FetchFor) (p : Port) (s : State) (start : Nat),
    (fetch purpose p s start).jumps ≤ 4 ∧
      (∀ d a, (fetch purpose p s start).found = some (d, a) →
        a.toNat % 8 = 0 ∧ a.toNat ≤ 0x7FF8 ∧ s.pageOpen p (pageOf a) = true ∧ kindSuits purpose d.kind = true ∧
          d.kind ≠ .jump ∧ d.areaFits ∧ (d.kind ≠ .seg → 1 ≤ d.code.toNat ∧ d.code.toNat ≤ 0xFE) ∧
          ¬ (d.kind = .ctrl ∧ d.link = .nextSegment) ∧
          (d.discard = true → d.kind = .input ∨ (d.kind = .seg ∧ purpose = .segment .input))) ∧
      (∀ d a n, (fetch purpose p s start).found = some (d, a) ∧ (fetch purpose p s start).jumps = n ↔
        n ≤ 4 ∧ jumpsLead p s n start a.toNat ∧ passesAt purpose p s d a.toNat)

/-- The layouts of 11.6 are read back: every good frame a unit can send, written as its bytes on the wire with preamble,
delimiter and CRC-16, is classified as that frame. A frame with any payload byte, type or CRC byte that does not
agree is corrupt: for every kind but RSP, whose status bits 7-5 are ignored (R186), the bytes LNK takes as a good
frame are exactly the wire bytes of that frame (R64). -/
def Obligations.UnitFramesAreReadAsTheirWireBytes : Prop :=
  (∀ f : UnitFrame, goodUnitFrame f → classifyFrame f.wire = f) ∧
  (∀ (bytes : List Byte) (f : UnitFrame), classifyFrame bytes = f → f ≠ .corrupt → (∀ u st, f ≠ .rsp u st) →
    bytes = f.wire)

/-! ### Invariants every step keeps -/

/-- The store keeps its canonical form, which is the model's own: addresses rising, no entry for a byte of 00h (log 17). -/
def Obligations.EveryStepKeepsTheStoreCanonical : Prop :=
  ∀ s t : State, s.storeOk → step s = .next t → t.storeOk

/-- Every page's use count stays the number of contexts whose current segment lies in it, and a page in use is never FREE
(R49). -/
def Obligations.EveryStepKeepsTheUseCounts : Prop :=
  ∀ s t : State, s.useCountsOk → step s = .next t → t.useCountsOk

/-- Each completion queue keeps at most 16 records with consecutive sequence numbers (R115, R116). No unit comes twice on the
deferred list (R126), and a held list that is not empty means 16 records in its queue (R117, R179). -/
def Obligations.EveryStepKeepsTheQueuesNumbered : Prop :=
  (∀ s t : State, s.queuesOk → step s = .next t → t.queuesOk) ∧
  (∀ s t : State, s.contextsOk → s.queuesOk → s.listsOk → step s = .next t → t.listsOk)

/-- Owners, held records, the select queue, the stop queue and the held lists keep agreeing with the contexts' states
(R2, R3, R10, R11, R12, R14, R15, R21, R122). -/
def Obligations.EveryStepKeepsTheContextsConsistent : Prop :=
  ∀ s t : State, s.contextsOk → step s = .next t → t.contextsOk

/-- The link keeps serving the contexts in SELECTING and CONNECTED and no other (R6, R7, R70, R79), and listening only where the
rules have it wait for a frame (R72, R79). At most one context is in SELECTING or CONNECTED (R70), in every state the link
invariant holds in. -/
def Obligations.TheLinkServesAtMostOneContext : Prop :=
  (∀ s t : State, s.contextsOk → s.linkOk → step s = .next t → t.linkOk) ∧
  (∀ (s : State) (u v : UnitAddr), s.linkOk →
    ((s.ctx u).state = .selecting ∨ (s.ctx u).state = .connected) →
    ((s.ctx v).state = .selecting ∨ (s.ctx v).state = .connected) → u = v)

/-- No data move can leave the page of its segment (R23, R57). -/
def Obligations.EveryStepKeepsSegmentsInTheirPage : Prop :=
  ∀ s t : State, s.segmentsOk → step s = .next t → t.segmentsOk

/-- The leases keep their form: a LAPSED port's timer is stopped, no port lapses before start-up has ended (R135 to R138). -/
def Obligations.EveryStepKeepsTheLeases : Prop :=
  ∀ s t : State, s.leasesOk → step s = .next t → t.leasesOk

/-- The state after reset meets every invariant. -/
def Obligations.ResetMeetsTheInvariants : Prop :=
  State.reset.storeOk ∧ State.reset.useCountsOk ∧ State.reset.queuesOk ∧ State.reset.contextsOk ∧ State.reset.linkOk ∧
    State.reset.segmentsOk ∧ State.reset.leasesOk ∧ State.reset.listsOk
end

