-- ==== Sys2Proof/Laws/State.lean ====
section
/-! SUPPORT. What each update of the state leaves alone and what it sets: one lemma for each update and each part that is read,
so that no proof unfolds a record update. -/

namespace Sys2Proof.Laws

open Sys2Proof.Machine

variable (s : State)

/-! ### Pairs -/

@[simp] theorem get_set {α : Type} (x : PerPort α) (p q : Port) (v : α) :
    (x.set p v).get q = if q = p then v else x.get q := by cases p <;> cases q <;> rfl

@[simp] theorem peer_ne (p : Port) : p.peer ≠ p := by cases p <;> decide

@[simp] theorem ne_peer (p : Port) : p ≠ p.peer := by cases p <;> decide

@[simp] theorem peer_peer (p : Port) : p.peer.peer = p := by cases p <;> rfl

theorem eq_or_eq_peer (p q : Port) : q = p ∨ q = p.peer := by cases p <;> cases q <;> decide

/-- Two pairs with the same halves are the same. -/
theorem perPort_ext {α : Type} {x y : PerPort α} (h : ∀ p, x.get p = y.get p) : x = y := by
  cases x; cases y; have ha := h .a; have hb := h .b; simp_all [PerPort.get]

/-! ### What an update sets -/

@[simp] theorem port_modPort (p x : Port) (f : PortIf → PortIf) :
    (s.modPort p f).port x = if x = p then f (s.port p) else s.port x := by
  simp [State.modPort, State.port]

@[simp] theorem ctx_modCtx (u v : UnitAddr) (f : Context → Context) :
    (s.modCtx u f).ctx v = if v = u then f (s.ctx u) else s.ctx v := by
  simp only [State.modCtx, State.ctx, Vector.getElem_set]
  by_cases h : v = u
  · subst h; simp
  · have h2 : u.val ≠ v.val := fun e => h (Fin.ext e.symm)
    simp [h, h2]

@[simp] theorem page_modPage (q x : PageNo) (f : PageEntry → PageEntry) :
    (s.modPage q f).page x = if x = q then f (s.page q) else s.page x := by
  simp only [State.modPage, State.page, Vector.getElem_set]
  by_cases h : x = q
  · subst h; simp
  · have h2 : q.val ≠ x.val := fun e => h (Fin.ext e.symm)
    simp [h, h2]

@[simp] theorem answer_setAnswer (u v : UnitAddr) (x : Option Answer) :
    (s.setAnswer u x).answer v = if v = u then x else s.answer v := by
  simp only [State.setAnswer, State.modLnk, State.answer, Vector.getElem_set]
  by_cases h : v = u
  · subst h; simp
  · have h2 : u.val ≠ v.val := fun e => h (Fin.ext e.symm)
    simp [h, h2]

@[simp] theorem queue_setQueue (p x : Port) (q : List Record) :
    (s.setQueue p q).queue x = if x = p then q else s.queue x := by simp [State.setQueue, State.queue]

@[simp] theorem seqNo_setSeqNo (p x : Port) (n : Word) :
    (s.setSeqNo p n).seqNo x = if x = p then n else s.seqNo x := by simp [State.setSeqNo, State.seqNo]

@[simp] theorem heldList_setHeldList (p x : Port) (l : List UnitAddr) :
    (s.setHeldList p l).heldList x = if x = p then l else s.heldList x := by simp [State.setHeldList, State.heldList]

@[simp] theorem deferred_setDeferred (l : List UnitAddr) : (s.setDeferred l).rcm.deferred = l := rfl

@[simp] theorem selectQ_modSelectQ (f : List UnitAddr → List UnitAddr) :
    (s.modSelectQ f).ctb.selectQ = f s.ctb.selectQ := rfl

@[simp] theorem stopQ_modStopQ (f : List UnitAddr → List UnitAddr) : (s.modStopQ f).ctb.stopQ = f s.ctb.stopQ := rfl

@[simp] theorem store_writeByte (a : StoreAddr) (b : Byte) :
    (s.writeByte a b).str.store = Store.insert s.str.store a.toNat b := rfl

@[simp] theorem lnk_modLnk (f : Lnk → Lnk) : (s.modLnk f).lnk = f s.lnk := rfl

@[simp] theorem dsc_modDsc (f : Dsc → Dsc) : (s.modDsc f).dsc = f s.dsc := rfl

/-! ### What an update leaves alone -/

/-! #### modPort -/

@[simp] theorem modPort_ctb (p : Port) (f : PortIf → PortIf) : (s.modPort p f).ctb = s.ctb := rfl
@[simp] theorem modPort_ctx (p : Port) (f : PortIf → PortIf) (v : UnitAddr) : (s.modPort p f).ctx v = s.ctx v := rfl
@[simp] theorem modPort_selectQ (p : Port) (f : PortIf → PortIf) : (s.modPort p f).ctb.selectQ = s.ctb.selectQ := rfl
@[simp] theorem modPort_stopQ (p : Port) (f : PortIf → PortIf) : (s.modPort p f).ctb.stopQ = s.ctb.stopQ := rfl
@[simp] theorem modPort_lnk (p : Port) (f : PortIf → PortIf) : (s.modPort p f).lnk = s.lnk := rfl
@[simp] theorem modPort_answer (p : Port) (f : PortIf → PortIf) (v : UnitAddr) :
    (s.modPort p f).answer v = s.answer v := rfl
@[simp] theorem modPort_rcm (p : Port) (f : PortIf → PortIf) : (s.modPort p f).rcm = s.rcm := rfl
@[simp] theorem modPort_queue (p : Port) (f : PortIf → PortIf) (y : Port) : (s.modPort p f).queue y = s.queue y := rfl
@[simp] theorem modPort_seqNo (p : Port) (f : PortIf → PortIf) (y : Port) : (s.modPort p f).seqNo y = s.seqNo y := rfl
@[simp] theorem modPort_heldList (p : Port) (f : PortIf → PortIf) (y : Port) :
    (s.modPort p f).heldList y = s.heldList y := rfl
@[simp] theorem modPort_deferred (p : Port) (f : PortIf → PortIf) :
    (s.modPort p f).rcm.deferred = s.rcm.deferred := rfl
@[simp] theorem modPort_str (p : Port) (f : PortIf → PortIf) : (s.modPort p f).str = s.str := rfl
@[simp] theorem modPort_store (p : Port) (f : PortIf → PortIf) : (s.modPort p f).str.store = s.str.store := rfl
@[simp] theorem modPort_pages (p : Port) (f : PortIf → PortIf) : (s.modPort p f).str.pages = s.str.pages := rfl
@[simp] theorem modPort_page (p : Port) (f : PortIf → PortIf) (y : PageNo) : (s.modPort p f).page y = s.page y := rfl
@[simp] theorem modPort_dsc (p : Port) (f : PortIf → PortIf) : (s.modPort p f).dsc = s.dsc := rfl
@[simp] theorem modPort_pending (p : Port) (f : PortIf → PortIf) : (s.modPort p f).pending = s.pending := rfl

/-! #### modCtx -/

@[simp] theorem modCtx_ports (u : UnitAddr) (f : Context → Context) : (s.modCtx u f).ports = s.ports := rfl
@[simp] theorem modCtx_port (u : UnitAddr) (f : Context → Context) (y : Port) :
    (s.modCtx u f).port y = s.port y := rfl
@[simp] theorem modCtx_selectQ (u : UnitAddr) (f : Context → Context) :
    (s.modCtx u f).ctb.selectQ = s.ctb.selectQ := rfl
@[simp] theorem modCtx_stopQ (u : UnitAddr) (f : Context → Context) : (s.modCtx u f).ctb.stopQ = s.ctb.stopQ := rfl
@[simp] theorem modCtx_lnk (u : UnitAddr) (f : Context → Context) : (s.modCtx u f).lnk = s.lnk := rfl
@[simp] theorem modCtx_answer (u : UnitAddr) (f : Context → Context) (v : UnitAddr) :
    (s.modCtx u f).answer v = s.answer v := rfl
@[simp] theorem modCtx_rcm (u : UnitAddr) (f : Context → Context) : (s.modCtx u f).rcm = s.rcm := rfl
@[simp] theorem modCtx_queue (u : UnitAddr) (f : Context → Context) (y : Port) :
    (s.modCtx u f).queue y = s.queue y := rfl
@[simp] theorem modCtx_seqNo (u : UnitAddr) (f : Context → Context) (y : Port) :
    (s.modCtx u f).seqNo y = s.seqNo y := rfl
@[simp] theorem modCtx_heldList (u : UnitAddr) (f : Context → Context) (y : Port) :
    (s.modCtx u f).heldList y = s.heldList y := rfl
@[simp] theorem modCtx_deferred (u : UnitAddr) (f : Context → Context) :
    (s.modCtx u f).rcm.deferred = s.rcm.deferred := rfl
@[simp] theorem modCtx_str (u : UnitAddr) (f : Context → Context) : (s.modCtx u f).str = s.str := rfl
@[simp] theorem modCtx_store (u : UnitAddr) (f : Context → Context) : (s.modCtx u f).str.store = s.str.store := rfl
@[simp] theorem modCtx_pages (u : UnitAddr) (f : Context → Context) : (s.modCtx u f).str.pages = s.str.pages := rfl
@[simp] theorem modCtx_page (u : UnitAddr) (f : Context → Context) (y : PageNo) :
    (s.modCtx u f).page y = s.page y := rfl
@[simp] theorem modCtx_dsc (u : UnitAddr) (f : Context → Context) : (s.modCtx u f).dsc = s.dsc := rfl
@[simp] theorem modCtx_pending (u : UnitAddr) (f : Context → Context) : (s.modCtx u f).pending = s.pending := rfl

/-! #### modSelectQ -/

@[simp] theorem modSelectQ_ports (f : List UnitAddr → List UnitAddr) : (s.modSelectQ f).ports = s.ports := rfl
@[simp] theorem modSelectQ_port (f : List UnitAddr → List UnitAddr) (y : Port) :
    (s.modSelectQ f).port y = s.port y := rfl
@[simp] theorem modSelectQ_ctx (f : List UnitAddr → List UnitAddr) (v : UnitAddr) :
    (s.modSelectQ f).ctx v = s.ctx v := rfl
@[simp] theorem modSelectQ_stopQ (f : List UnitAddr → List UnitAddr) : (s.modSelectQ f).ctb.stopQ = s.ctb.stopQ := rfl
@[simp] theorem modSelectQ_lnk (f : List UnitAddr → List UnitAddr) : (s.modSelectQ f).lnk = s.lnk := rfl
@[simp] theorem modSelectQ_answer (f : List UnitAddr → List UnitAddr) (v : UnitAddr) :
    (s.modSelectQ f).answer v = s.answer v := rfl
@[simp] theorem modSelectQ_rcm (f : List UnitAddr → List UnitAddr) : (s.modSelectQ f).rcm = s.rcm := rfl
@[simp] theorem modSelectQ_queue (f : List UnitAddr → List UnitAddr) (y : Port) :
    (s.modSelectQ f).queue y = s.queue y := rfl
@[simp] theorem modSelectQ_seqNo (f : List UnitAddr → List UnitAddr) (y : Port) :
    (s.modSelectQ f).seqNo y = s.seqNo y := rfl
@[simp] theorem modSelectQ_heldList (f : List UnitAddr → List UnitAddr) (y : Port) :
    (s.modSelectQ f).heldList y = s.heldList y := rfl
@[simp] theorem modSelectQ_deferred (f : List UnitAddr → List UnitAddr) :
    (s.modSelectQ f).rcm.deferred = s.rcm.deferred := rfl
@[simp] theorem modSelectQ_str (f : List UnitAddr → List UnitAddr) : (s.modSelectQ f).str = s.str := rfl
@[simp] theorem modSelectQ_store (f : List UnitAddr → List UnitAddr) : (s.modSelectQ f).str.store = s.str.store := rfl
@[simp] theorem modSelectQ_pages (f : List UnitAddr → List UnitAddr) : (s.modSelectQ f).str.pages = s.str.pages := rfl
@[simp] theorem modSelectQ_page (f : List UnitAddr → List UnitAddr) (y : PageNo) :
    (s.modSelectQ f).page y = s.page y := rfl
@[simp] theorem modSelectQ_dsc (f : List UnitAddr → List UnitAddr) : (s.modSelectQ f).dsc = s.dsc := rfl
@[simp] theorem modSelectQ_pending (f : List UnitAddr → List UnitAddr) : (s.modSelectQ f).pending = s.pending := rfl

/-! #### modStopQ -/

@[simp] theorem modStopQ_ports (f : List UnitAddr → List UnitAddr) : (s.modStopQ f).ports = s.ports := rfl
@[simp] theorem modStopQ_port (f : List UnitAddr → List UnitAddr) (y : Port) : (s.modStopQ f).port y = s.port y := rfl
@[simp] theorem modStopQ_ctx (f : List UnitAddr → List UnitAddr) (v : UnitAddr) :
    (s.modStopQ f).ctx v = s.ctx v := rfl
@[simp] theorem modStopQ_selectQ (f : List UnitAddr → List UnitAddr) :
    (s.modStopQ f).ctb.selectQ = s.ctb.selectQ := rfl
@[simp] theorem modStopQ_lnk (f : List UnitAddr → List UnitAddr) : (s.modStopQ f).lnk = s.lnk := rfl
@[simp] theorem modStopQ_answer (f : List UnitAddr → List UnitAddr) (v : UnitAddr) :
    (s.modStopQ f).answer v = s.answer v := rfl
@[simp] theorem modStopQ_rcm (f : List UnitAddr → List UnitAddr) : (s.modStopQ f).rcm = s.rcm := rfl
@[simp] theorem modStopQ_queue (f : List UnitAddr → List UnitAddr) (y : Port) :
    (s.modStopQ f).queue y = s.queue y := rfl
@[simp] theorem modStopQ_seqNo (f : List UnitAddr → List UnitAddr) (y : Port) :
    (s.modStopQ f).seqNo y = s.seqNo y := rfl
@[simp] theorem modStopQ_heldList (f : List UnitAddr → List UnitAddr) (y : Port) :
    (s.modStopQ f).heldList y = s.heldList y := rfl
@[simp] theorem modStopQ_deferred (f : List UnitAddr → List UnitAddr) :
    (s.modStopQ f).rcm.deferred = s.rcm.deferred := rfl
@[simp] theorem modStopQ_str (f : List UnitAddr → List UnitAddr) : (s.modStopQ f).str = s.str := rfl
@[simp] theorem modStopQ_store (f : List UnitAddr → List UnitAddr) : (s.modStopQ f).str.store = s.str.store := rfl
@[simp] theorem modStopQ_pages (f : List UnitAddr → List UnitAddr) : (s.modStopQ f).str.pages = s.str.pages := rfl
@[simp] theorem modStopQ_page (f : List UnitAddr → List UnitAddr) (y : PageNo) :
    (s.modStopQ f).page y = s.page y := rfl
@[simp] theorem modStopQ_dsc (f : List UnitAddr → List UnitAddr) : (s.modStopQ f).dsc = s.dsc := rfl
@[simp] theorem modStopQ_pending (f : List UnitAddr → List UnitAddr) : (s.modStopQ f).pending = s.pending := rfl

/-! #### setQueue -/

@[simp] theorem setQueue_ports (p : Port) (q : List Record) : (s.setQueue p q).ports = s.ports := rfl
@[simp] theorem setQueue_port (p : Port) (q : List Record) (y : Port) : (s.setQueue p q).port y = s.port y := rfl
@[simp] theorem setQueue_ctb (p : Port) (q : List Record) : (s.setQueue p q).ctb = s.ctb := rfl
@[simp] theorem setQueue_ctx (p : Port) (q : List Record) (v : UnitAddr) : (s.setQueue p q).ctx v = s.ctx v := rfl
@[simp] theorem setQueue_selectQ (p : Port) (q : List Record) : (s.setQueue p q).ctb.selectQ = s.ctb.selectQ := rfl
@[simp] theorem setQueue_stopQ (p : Port) (q : List Record) : (s.setQueue p q).ctb.stopQ = s.ctb.stopQ := rfl
@[simp] theorem setQueue_lnk (p : Port) (q : List Record) : (s.setQueue p q).lnk = s.lnk := rfl
@[simp] theorem setQueue_answer (p : Port) (q : List Record) (v : UnitAddr) :
    (s.setQueue p q).answer v = s.answer v := rfl
@[simp] theorem setQueue_seqNo (p : Port) (q : List Record) (y : Port) : (s.setQueue p q).seqNo y = s.seqNo y := rfl
@[simp] theorem setQueue_heldList (p : Port) (q : List Record) (y : Port) :
    (s.setQueue p q).heldList y = s.heldList y := rfl
@[simp] theorem setQueue_deferred (p : Port) (q : List Record) : (s.setQueue p q).rcm.deferred = s.rcm.deferred := rfl
@[simp] theorem setQueue_str (p : Port) (q : List Record) : (s.setQueue p q).str = s.str := rfl
@[simp] theorem setQueue_store (p : Port) (q : List Record) : (s.setQueue p q).str.store = s.str.store := rfl
@[simp] theorem setQueue_pages (p : Port) (q : List Record) : (s.setQueue p q).str.pages = s.str.pages := rfl
@[simp] theorem setQueue_page (p : Port) (q : List Record) (y : PageNo) : (s.setQueue p q).page y = s.page y := rfl
@[simp] theorem setQueue_dsc (p : Port) (q : List Record) : (s.setQueue p q).dsc = s.dsc := rfl
@[simp] theorem setQueue_pending (p : Port) (q : List Record) : (s.setQueue p q).pending = s.pending := rfl

/-! #### setSeqNo -/

@[simp] theorem setSeqNo_ports (p : Port) (n : Word) : (s.setSeqNo p n).ports = s.ports := rfl
@[simp] theorem setSeqNo_port (p : Port) (n : Word) (y : Port) : (s.setSeqNo p n).port y = s.port y := rfl
@[simp] theorem setSeqNo_ctb (p : Port) (n : Word) : (s.setSeqNo p n).ctb = s.ctb := rfl
@[simp] theorem setSeqNo_ctx (p : Port) (n : Word) (v : UnitAddr) : (s.setSeqNo p n).ctx v = s.ctx v := rfl
@[simp] theorem setSeqNo_selectQ (p : Port) (n : Word) : (s.setSeqNo p n).ctb.selectQ = s.ctb.selectQ := rfl
@[simp] theorem setSeqNo_stopQ (p : Port) (n : Word) : (s.setSeqNo p n).ctb.stopQ = s.ctb.stopQ := rfl
@[simp] theorem setSeqNo_lnk (p : Port) (n : Word) : (s.setSeqNo p n).lnk = s.lnk := rfl
@[simp] theorem setSeqNo_answer (p : Port) (n : Word) (v : UnitAddr) : (s.setSeqNo p n).answer v = s.answer v := rfl
@[simp] theorem setSeqNo_queue (p : Port) (n : Word) (y : Port) : (s.setSeqNo p n).queue y = s.queue y := rfl
@[simp] theorem setSeqNo_heldList (p : Port) (n : Word) (y : Port) : (s.setSeqNo p n).heldList y = s.heldList y := rfl
@[simp] theorem setSeqNo_deferred (p : Port) (n : Word) : (s.setSeqNo p n).rcm.deferred = s.rcm.deferred := rfl
@[simp] theorem setSeqNo_str (p : Port) (n : Word) : (s.setSeqNo p n).str = s.str := rfl
@[simp] theorem setSeqNo_store (p : Port) (n : Word) : (s.setSeqNo p n).str.store = s.str.store := rfl
@[simp] theorem setSeqNo_pages (p : Port) (n : Word) : (s.setSeqNo p n).str.pages = s.str.pages := rfl
@[simp] theorem setSeqNo_page (p : Port) (n : Word) (y : PageNo) : (s.setSeqNo p n).page y = s.page y := rfl
@[simp] theorem setSeqNo_dsc (p : Port) (n : Word) : (s.setSeqNo p n).dsc = s.dsc := rfl
@[simp] theorem setSeqNo_pending (p : Port) (n : Word) : (s.setSeqNo p n).pending = s.pending := rfl

/-! #### setHeldList -/

@[simp] theorem setHeldList_queues (p : Port) (l : List UnitAddr) : (s.setHeldList p l).rcm.queues = s.rcm.queues := rfl
@[simp] theorem setHeldList_seqs (p : Port) (l : List UnitAddr) : (s.setHeldList p l).rcm.seqs = s.rcm.seqs := rfl
@[simp] theorem setHeldList_ports (p : Port) (l : List UnitAddr) : (s.setHeldList p l).ports = s.ports := rfl
@[simp] theorem setHeldList_port (p : Port) (l : List UnitAddr) (y : Port) :
    (s.setHeldList p l).port y = s.port y := rfl
@[simp] theorem setHeldList_ctb (p : Port) (l : List UnitAddr) : (s.setHeldList p l).ctb = s.ctb := rfl
@[simp] theorem setHeldList_ctx (p : Port) (l : List UnitAddr) (v : UnitAddr) :
    (s.setHeldList p l).ctx v = s.ctx v := rfl
@[simp] theorem setHeldList_selectQ (p : Port) (l : List UnitAddr) :
    (s.setHeldList p l).ctb.selectQ = s.ctb.selectQ := rfl
@[simp] theorem setHeldList_stopQ (p : Port) (l : List UnitAddr) : (s.setHeldList p l).ctb.stopQ = s.ctb.stopQ := rfl
@[simp] theorem setHeldList_lnk (p : Port) (l : List UnitAddr) : (s.setHeldList p l).lnk = s.lnk := rfl
@[simp] theorem setHeldList_answer (p : Port) (l : List UnitAddr) (v : UnitAddr) :
    (s.setHeldList p l).answer v = s.answer v := rfl
@[simp] theorem setHeldList_queue (p : Port) (l : List UnitAddr) (y : Port) :
    (s.setHeldList p l).queue y = s.queue y := rfl
@[simp] theorem setHeldList_seqNo (p : Port) (l : List UnitAddr) (y : Port) :
    (s.setHeldList p l).seqNo y = s.seqNo y := rfl
@[simp] theorem setHeldList_deferred (p : Port) (l : List UnitAddr) :
    (s.setHeldList p l).rcm.deferred = s.rcm.deferred := rfl
@[simp] theorem setHeldList_str (p : Port) (l : List UnitAddr) : (s.setHeldList p l).str = s.str := rfl
@[simp] theorem setHeldList_store (p : Port) (l : List UnitAddr) : (s.setHeldList p l).str.store = s.str.store := rfl
@[simp] theorem setHeldList_pages (p : Port) (l : List UnitAddr) : (s.setHeldList p l).str.pages = s.str.pages := rfl
@[simp] theorem setHeldList_page (p : Port) (l : List UnitAddr) (y : PageNo) :
    (s.setHeldList p l).page y = s.page y := rfl
@[simp] theorem setHeldList_dsc (p : Port) (l : List UnitAddr) : (s.setHeldList p l).dsc = s.dsc := rfl
@[simp] theorem setHeldList_pending (p : Port) (l : List UnitAddr) : (s.setHeldList p l).pending = s.pending := rfl

/-! #### setDeferred -/

@[simp] theorem setDeferred_ports (l : List UnitAddr) : (s.setDeferred l).ports = s.ports := rfl
@[simp] theorem setDeferred_port (l : List UnitAddr) (y : Port) : (s.setDeferred l).port y = s.port y := rfl
@[simp] theorem setDeferred_ctb (l : List UnitAddr) : (s.setDeferred l).ctb = s.ctb := rfl
@[simp] theorem setDeferred_ctx (l : List UnitAddr) (v : UnitAddr) : (s.setDeferred l).ctx v = s.ctx v := rfl
@[simp] theorem setDeferred_selectQ (l : List UnitAddr) : (s.setDeferred l).ctb.selectQ = s.ctb.selectQ := rfl
@[simp] theorem setDeferred_stopQ (l : List UnitAddr) : (s.setDeferred l).ctb.stopQ = s.ctb.stopQ := rfl
@[simp] theorem setDeferred_lnk (l : List UnitAddr) : (s.setDeferred l).lnk = s.lnk := rfl
@[simp] theorem setDeferred_answer (l : List UnitAddr) (v : UnitAddr) : (s.setDeferred l).answer v = s.answer v := rfl
@[simp] theorem setDeferred_queue (l : List UnitAddr) (y : Port) : (s.setDeferred l).queue y = s.queue y := rfl
@[simp] theorem setDeferred_seqNo (l : List UnitAddr) (y : Port) : (s.setDeferred l).seqNo y = s.seqNo y := rfl
@[simp] theorem setDeferred_heldList (l : List UnitAddr) (y : Port) :
    (s.setDeferred l).heldList y = s.heldList y := rfl
@[simp] theorem setDeferred_str (l : List UnitAddr) : (s.setDeferred l).str = s.str := rfl
@[simp] theorem setDeferred_store (l : List UnitAddr) : (s.setDeferred l).str.store = s.str.store := rfl
@[simp] theorem setDeferred_pages (l : List UnitAddr) : (s.setDeferred l).str.pages = s.str.pages := rfl
@[simp] theorem setDeferred_page (l : List UnitAddr) (y : PageNo) : (s.setDeferred l).page y = s.page y := rfl
@[simp] theorem setDeferred_dsc (l : List UnitAddr) : (s.setDeferred l).dsc = s.dsc := rfl
@[simp] theorem setDeferred_pending (l : List UnitAddr) : (s.setDeferred l).pending = s.pending := rfl

/-! #### modPage -/

@[simp] theorem modPage_ports (q : PageNo) (f : PageEntry → PageEntry) : (s.modPage q f).ports = s.ports := rfl
@[simp] theorem modPage_port (q : PageNo) (f : PageEntry → PageEntry) (y : Port) :
    (s.modPage q f).port y = s.port y := rfl
@[simp] theorem modPage_ctb (q : PageNo) (f : PageEntry → PageEntry) : (s.modPage q f).ctb = s.ctb := rfl
@[simp] theorem modPage_ctx (q : PageNo) (f : PageEntry → PageEntry) (v : UnitAddr) :
    (s.modPage q f).ctx v = s.ctx v := rfl
@[simp] theorem modPage_selectQ (q : PageNo) (f : PageEntry → PageEntry) :
    (s.modPage q f).ctb.selectQ = s.ctb.selectQ := rfl
@[simp] theorem modPage_stopQ (q : PageNo) (f : PageEntry → PageEntry) :
    (s.modPage q f).ctb.stopQ = s.ctb.stopQ := rfl
@[simp] theorem modPage_lnk (q : PageNo) (f : PageEntry → PageEntry) : (s.modPage q f).lnk = s.lnk := rfl
@[simp] theorem modPage_answer (q : PageNo) (f : PageEntry → PageEntry) (v : UnitAddr) :
    (s.modPage q f).answer v = s.answer v := rfl
@[simp] theorem modPage_rcm (q : PageNo) (f : PageEntry → PageEntry) : (s.modPage q f).rcm = s.rcm := rfl
@[simp] theorem modPage_queue (q : PageNo) (f : PageEntry → PageEntry) (y : Port) :
    (s.modPage q f).queue y = s.queue y := rfl
@[simp] theorem modPage_seqNo (q : PageNo) (f : PageEntry → PageEntry) (y : Port) :
    (s.modPage q f).seqNo y = s.seqNo y := rfl
@[simp] theorem modPage_heldList (q : PageNo) (f : PageEntry → PageEntry) (y : Port) :
    (s.modPage q f).heldList y = s.heldList y := rfl
@[simp] theorem modPage_deferred (q : PageNo) (f : PageEntry → PageEntry) :
    (s.modPage q f).rcm.deferred = s.rcm.deferred := rfl
@[simp] theorem modPage_store (q : PageNo) (f : PageEntry → PageEntry) :
    (s.modPage q f).str.store = s.str.store := rfl
@[simp] theorem modPage_dsc (q : PageNo) (f : PageEntry → PageEntry) : (s.modPage q f).dsc = s.dsc := rfl
@[simp] theorem modPage_pending (q : PageNo) (f : PageEntry → PageEntry) : (s.modPage q f).pending = s.pending := rfl

/-! #### writeByte -/

@[simp] theorem writeByte_ports (a : StoreAddr) (b : Byte) : (s.writeByte a b).ports = s.ports := rfl
@[simp] theorem writeByte_port (a : StoreAddr) (b : Byte) (y : Port) : (s.writeByte a b).port y = s.port y := rfl
@[simp] theorem writeByte_ctb (a : StoreAddr) (b : Byte) : (s.writeByte a b).ctb = s.ctb := rfl
@[simp] theorem writeByte_ctx (a : StoreAddr) (b : Byte) (v : UnitAddr) : (s.writeByte a b).ctx v = s.ctx v := rfl
@[simp] theorem writeByte_selectQ (a : StoreAddr) (b : Byte) : (s.writeByte a b).ctb.selectQ = s.ctb.selectQ := rfl
@[simp] theorem writeByte_stopQ (a : StoreAddr) (b : Byte) : (s.writeByte a b).ctb.stopQ = s.ctb.stopQ := rfl
@[simp] theorem writeByte_lnk (a : StoreAddr) (b : Byte) : (s.writeByte a b).lnk = s.lnk := rfl
@[simp] theorem writeByte_answer (a : StoreAddr) (b : Byte) (v : UnitAddr) :
    (s.writeByte a b).answer v = s.answer v := rfl
@[simp] theorem writeByte_rcm (a : StoreAddr) (b : Byte) : (s.writeByte a b).rcm = s.rcm := rfl
@[simp] theorem writeByte_queue (a : StoreAddr) (b : Byte) (y : Port) : (s.writeByte a b).queue y = s.queue y := rfl
@[simp] theorem writeByte_seqNo (a : StoreAddr) (b : Byte) (y : Port) : (s.writeByte a b).seqNo y = s.seqNo y := rfl
@[simp] theorem writeByte_heldList (a : StoreAddr) (b : Byte) (y : Port) :
    (s.writeByte a b).heldList y = s.heldList y := rfl
@[simp] theorem writeByte_deferred (a : StoreAddr) (b : Byte) : (s.writeByte a b).rcm.deferred = s.rcm.deferred := rfl
@[simp] theorem writeByte_pages (a : StoreAddr) (b : Byte) : (s.writeByte a b).str.pages = s.str.pages := rfl
@[simp] theorem writeByte_page (a : StoreAddr) (b : Byte) (y : PageNo) : (s.writeByte a b).page y = s.page y := rfl
@[simp] theorem writeByte_dsc (a : StoreAddr) (b : Byte) : (s.writeByte a b).dsc = s.dsc := rfl
@[simp] theorem writeByte_pending (a : StoreAddr) (b : Byte) : (s.writeByte a b).pending = s.pending := rfl

/-! #### modLnk -/

@[simp] theorem modLnk_ports (f : Lnk → Lnk) : (s.modLnk f).ports = s.ports := rfl
@[simp] theorem modLnk_port (f : Lnk → Lnk) (y : Port) : (s.modLnk f).port y = s.port y := rfl
@[simp] theorem modLnk_ctb (f : Lnk → Lnk) : (s.modLnk f).ctb = s.ctb := rfl
@[simp] theorem modLnk_ctx (f : Lnk → Lnk) (v : UnitAddr) : (s.modLnk f).ctx v = s.ctx v := rfl
@[simp] theorem modLnk_selectQ (f : Lnk → Lnk) : (s.modLnk f).ctb.selectQ = s.ctb.selectQ := rfl
@[simp] theorem modLnk_stopQ (f : Lnk → Lnk) : (s.modLnk f).ctb.stopQ = s.ctb.stopQ := rfl
@[simp] theorem modLnk_rcm (f : Lnk → Lnk) : (s.modLnk f).rcm = s.rcm := rfl
@[simp] theorem modLnk_queue (f : Lnk → Lnk) (y : Port) : (s.modLnk f).queue y = s.queue y := rfl
@[simp] theorem modLnk_seqNo (f : Lnk → Lnk) (y : Port) : (s.modLnk f).seqNo y = s.seqNo y := rfl
@[simp] theorem modLnk_heldList (f : Lnk → Lnk) (y : Port) : (s.modLnk f).heldList y = s.heldList y := rfl
@[simp] theorem modLnk_deferred (f : Lnk → Lnk) : (s.modLnk f).rcm.deferred = s.rcm.deferred := rfl
@[simp] theorem modLnk_str (f : Lnk → Lnk) : (s.modLnk f).str = s.str := rfl
@[simp] theorem modLnk_store (f : Lnk → Lnk) : (s.modLnk f).str.store = s.str.store := rfl
@[simp] theorem modLnk_pages (f : Lnk → Lnk) : (s.modLnk f).str.pages = s.str.pages := rfl
@[simp] theorem modLnk_page (f : Lnk → Lnk) (y : PageNo) : (s.modLnk f).page y = s.page y := rfl
@[simp] theorem modLnk_dsc (f : Lnk → Lnk) : (s.modLnk f).dsc = s.dsc := rfl
@[simp] theorem modLnk_pending (f : Lnk → Lnk) : (s.modLnk f).pending = s.pending := rfl

/-! #### setAnswer -/

@[simp] theorem setAnswer_ports (u : UnitAddr) (x : Option Answer) : (s.setAnswer u x).ports = s.ports := rfl
@[simp] theorem setAnswer_port (u : UnitAddr) (x : Option Answer) (y : Port) :
    (s.setAnswer u x).port y = s.port y := rfl
@[simp] theorem setAnswer_ctb (u : UnitAddr) (x : Option Answer) : (s.setAnswer u x).ctb = s.ctb := rfl
@[simp] theorem setAnswer_ctx (u : UnitAddr) (x : Option Answer) (v : UnitAddr) :
    (s.setAnswer u x).ctx v = s.ctx v := rfl
@[simp] theorem setAnswer_selectQ (u : UnitAddr) (x : Option Answer) :
    (s.setAnswer u x).ctb.selectQ = s.ctb.selectQ := rfl
@[simp] theorem setAnswer_stopQ (u : UnitAddr) (x : Option Answer) : (s.setAnswer u x).ctb.stopQ = s.ctb.stopQ := rfl
@[simp] theorem setAnswer_rcm (u : UnitAddr) (x : Option Answer) : (s.setAnswer u x).rcm = s.rcm := rfl
@[simp] theorem setAnswer_queue (u : UnitAddr) (x : Option Answer) (y : Port) :
    (s.setAnswer u x).queue y = s.queue y := rfl
@[simp] theorem setAnswer_seqNo (u : UnitAddr) (x : Option Answer) (y : Port) :
    (s.setAnswer u x).seqNo y = s.seqNo y := rfl
@[simp] theorem setAnswer_heldList (u : UnitAddr) (x : Option Answer) (y : Port) :
    (s.setAnswer u x).heldList y = s.heldList y := rfl
@[simp] theorem setAnswer_deferred (u : UnitAddr) (x : Option Answer) :
    (s.setAnswer u x).rcm.deferred = s.rcm.deferred := rfl
@[simp] theorem setAnswer_str (u : UnitAddr) (x : Option Answer) : (s.setAnswer u x).str = s.str := rfl
@[simp] theorem setAnswer_store (u : UnitAddr) (x : Option Answer) : (s.setAnswer u x).str.store = s.str.store := rfl
@[simp] theorem setAnswer_pages (u : UnitAddr) (x : Option Answer) : (s.setAnswer u x).str.pages = s.str.pages := rfl
@[simp] theorem setAnswer_page (u : UnitAddr) (x : Option Answer) (y : PageNo) :
    (s.setAnswer u x).page y = s.page y := rfl
@[simp] theorem setAnswer_dsc (u : UnitAddr) (x : Option Answer) : (s.setAnswer u x).dsc = s.dsc := rfl
@[simp] theorem setAnswer_pending (u : UnitAddr) (x : Option Answer) : (s.setAnswer u x).pending = s.pending := rfl
@[simp] theorem setAnswer_link (u : UnitAddr) (x : Option Answer) : (s.setAnswer u x).lnk.link = s.lnk.link := rfl
@[simp] theorem setAnswer_exchange (u : UnitAddr) (x : Option Answer) : (s.setAnswer u x).lnk.exchange = s.lnk.exchange := rfl
@[simp] theorem setAnswer_conn (u : UnitAddr) (x : Option Answer) : (s.setAnswer u x).lnk.conn = s.lnk.conn := rfl
@[simp] theorem setAnswer_replyTimer (u : UnitAddr) (x : Option Answer) : (s.setAnswer u x).lnk.replyTimer = s.lnk.replyTimer := rfl
@[simp] theorem setAnswer_gapTimer (u : UnitAddr) (x : Option Answer) : (s.setAnswer u x).lnk.gapTimer = s.lnk.gapTimer := rfl
@[simp] theorem setAnswer_linkTimer (u : UnitAddr) (x : Option Answer) : (s.setAnswer u x).lnk.linkTimer = s.lnk.linkTimer := rfl
@[simp] theorem setAnswer_reception (u : UnitAddr) (x : Option Answer) : (s.setAnswer u x).lnk.reception = s.lnk.reception := rfl
@[simp] theorem setAnswer_srqLine (u : UnitAddr) (x : Option Answer) : (s.setAnswer u x).lnk.srqLine = s.lnk.srqLine := rfl
@[simp] theorem setAnswer_srqSampled (u : UnitAddr) (x : Option Answer) : (s.setAnswer u x).lnk.srqSampled = s.lnk.srqSampled := rfl
@[simp] theorem setAnswer_grantMem (u : UnitAddr) (x : Option Answer) : (s.setAnswer u x).lnk.grantMem = s.lnk.grantMem := rfl

/-! #### modDsc -/

@[simp] theorem modDsc_ports (f : Dsc → Dsc) : (s.modDsc f).ports = s.ports := rfl
@[simp] theorem modDsc_port (f : Dsc → Dsc) (y : Port) : (s.modDsc f).port y = s.port y := rfl
@[simp] theorem modDsc_ctb (f : Dsc → Dsc) : (s.modDsc f).ctb = s.ctb := rfl
@[simp] theorem modDsc_ctx (f : Dsc → Dsc) (v : UnitAddr) : (s.modDsc f).ctx v = s.ctx v := rfl
@[simp] theorem modDsc_selectQ (f : Dsc → Dsc) : (s.modDsc f).ctb.selectQ = s.ctb.selectQ := rfl
@[simp] theorem modDsc_stopQ (f : Dsc → Dsc) : (s.modDsc f).ctb.stopQ = s.ctb.stopQ := rfl
@[simp] theorem modDsc_lnk (f : Dsc → Dsc) : (s.modDsc f).lnk = s.lnk := rfl
@[simp] theorem modDsc_answer (f : Dsc → Dsc) (v : UnitAddr) : (s.modDsc f).answer v = s.answer v := rfl
@[simp] theorem modDsc_rcm (f : Dsc → Dsc) : (s.modDsc f).rcm = s.rcm := rfl
@[simp] theorem modDsc_queue (f : Dsc → Dsc) (y : Port) : (s.modDsc f).queue y = s.queue y := rfl
@[simp] theorem modDsc_seqNo (f : Dsc → Dsc) (y : Port) : (s.modDsc f).seqNo y = s.seqNo y := rfl
@[simp] theorem modDsc_heldList (f : Dsc → Dsc) (y : Port) : (s.modDsc f).heldList y = s.heldList y := rfl
@[simp] theorem modDsc_deferred (f : Dsc → Dsc) : (s.modDsc f).rcm.deferred = s.rcm.deferred := rfl
@[simp] theorem modDsc_str (f : Dsc → Dsc) : (s.modDsc f).str = s.str := rfl
@[simp] theorem modDsc_store (f : Dsc → Dsc) : (s.modDsc f).str.store = s.str.store := rfl
@[simp] theorem modDsc_pages (f : Dsc → Dsc) : (s.modDsc f).str.pages = s.str.pages := rfl
@[simp] theorem modDsc_page (f : Dsc → Dsc) (y : PageNo) : (s.modDsc f).page y = s.page y := rfl
@[simp] theorem modDsc_pending (f : Dsc → Dsc) : (s.modDsc f).pending = s.pending := rfl

/-! ### What depends on the directory and the pages alone -/

@[simp] theorem entry_modCtx (u v : UnitAddr) (f : Context → Context) : (s.modCtx u f).entry v = s.entry v := rfl

@[simp] theorem entry_modLnk (v : UnitAddr) (f : Lnk → Lnk) : (s.modLnk f).entry v = s.entry v := rfl

@[simp] theorem entry_setAnswer (u v : UnitAddr) (x : Option Answer) : (s.setAnswer u x).entry v = s.entry v := rfl

@[simp] theorem entry_modPort (p : Port) (v : UnitAddr) (f : PortIf → PortIf) : (s.modPort p f).entry v = s.entry v := rfl

@[simp] theorem entry_modPage (q : PageNo) (v : UnitAddr) (f : PageEntry → PageEntry) :
    (s.modPage q f).entry v = s.entry v := rfl

@[simp] theorem pageOpen_modCtx (u : UnitAddr) (f : Context → Context) (p : Port) (q : PageNo) :
    (s.modCtx u f).pageOpen p q = s.pageOpen p q := rfl

@[simp] theorem pageOpen_modLnk (f : Lnk → Lnk) (p : Port) (q : PageNo) : (s.modLnk f).pageOpen p q = s.pageOpen p q := rfl

@[simp] theorem pageOpen_setAnswer (u : UnitAddr) (x : Option Answer) (p : Port) (q : PageNo) :
    (s.setAnswer u x).pageOpen p q = s.pageOpen p q := rfl

@[simp] theorem byteAt_modCtx (u : UnitAddr) (f : Context → Context) (a : StoreAddr) :
    (s.modCtx u f).byteAt a = s.byteAt a := rfl

@[simp] theorem byteAt_modLnk (f : Lnk → Lnk) (a : StoreAddr) : (s.modLnk f).byteAt a = s.byteAt a := rfl

@[simp] theorem byteAt_setAnswer (u : UnitAddr) (x : Option Answer) (a : StoreAddr) :
    (s.setAnswer u x).byteAt a = s.byteAt a := rfl

@[simp] theorem byteAt_modPort (p : Port) (f : PortIf → PortIf) (a : StoreAddr) :
    (s.modPort p f).byteAt a = s.byteAt a := rfl

@[simp] theorem byteAt_modPage (q : PageNo) (f : PageEntry → PageEntry) (a : StoreAddr) :
    (s.modPage q f).byteAt a = s.byteAt a := rfl

/-! ### Updates that change nothing, and two updates of one part -/

@[simp] theorem modCtx_id (u : UnitAddr) : (s.modCtx u fun _ => s.ctx u) = s := by
  simp [State.modCtx, State.ctx]

@[simp] theorem modSelectQ_id : (s.modSelectQ fun l => l) = s := rfl

@[simp] theorem modStopQ_id : (s.modStopQ fun l => l) = s := rfl

@[simp] theorem modCtx_modCtx (u : UnitAddr) (f g : Context → Context) :
    (s.modCtx u f).modCtx u g = s.modCtx u (fun c => g (f c)) := by
  have h : (s.modCtx u f).ctx u = f (s.ctx u) := by simp
  rw [State.modCtx, h]; simp [State.modCtx]

/-- Only what the function gives on the context it finds matters. -/
theorem modCtx_congr (u : UnitAddr) {f g : Context → Context} (h : f (s.ctx u) = g (s.ctx u)) :
    s.modCtx u f = s.modCtx u g := by simp [State.modCtx, h]

@[simp] theorem modLnk_modLnk (f g : Lnk → Lnk) : (s.modLnk f).modLnk g = s.modLnk (fun l => g (f l)) := rfl

@[simp] theorem modPort_modPort (p : Port) (f g : PortIf → PortIf) :
    (s.modPort p f).modPort p g = s.modPort p (fun x => g (f x)) := by
  cases p <;> rfl

/-- Only what the function gives on the port it finds matters. -/
theorem modPort_congr (p : Port) {f g : PortIf → PortIf} (h : f (s.port p) = g (s.port p)) :
    s.modPort p f = s.modPort p g := by simp [State.modPort, h]

end Sys2Proof.Laws
end

