-- ==== Sys2Proof/Laws/Store.lean ====
section
/-! SUPPORT. The store: its canonical form is kept by every write, a write changes the byte it names and no other, and runs of
bytes are read and written address by address. -/

namespace Sys2Proof.Laws

open Sys2Proof.Machine

/-! ### The store list -/

theorem wfFrom_mono {lo lo' : Nat} {m : Store} (h : Store.wfFrom lo m = true) (hl : lo' ≤ lo) :
    Store.wfFrom lo' m = true := by
  cases m with
  | nil => rfl
  | cons x rest =>
    obtain ⟨k, v⟩ := x
    simp only [Store.wfFrom, Bool.and_eq_true, decide_eq_true_eq] at h ⊢
    exact ⟨⟨⟨le_trans hl h.1.1.1, h.1.1.2⟩, h.1.2⟩, h.2⟩

/-- A canonical list that begins above an address reads 00h there. -/
theorem lookup_below {m : Store} : ∀ {lo a : Nat}, Store.wfFrom lo m = true → a < lo → Store.lookup m a = 0 := by
  induction m with
  | nil => intros; rfl
  | cons x rest ih =>
    obtain ⟨k, v⟩ := x
    intro lo a h ha
    simp only [Store.wfFrom, Bool.and_eq_true, decide_eq_true_eq] at h
    have hk : a ≠ k := by omega
    simp only [Store.lookup, hk, if_false]
    exact ih h.2 (by omega)

theorem wfFrom_insert {m : Store} {a : Nat} (b : Byte) (ha : a < 32768) :
    ∀ {lo : Nat}, Store.wfFrom lo m = true → lo ≤ a → Store.wfFrom lo (Store.insert m a b) = true := by
  induction m with
  | nil =>
    intro lo _ hl
    by_cases hb : b = 0#8 <;> simp [Store.insert, Store.wfFrom, hb, hl, ha]
  | cons x rest ih =>
    obtain ⟨k, v⟩ := x
    intro lo h hl
    have h' := h
    simp only [Store.wfFrom, Bool.and_eq_true, decide_eq_true_eq] at h'
    obtain ⟨⟨⟨h1, h2⟩, h3⟩, h4⟩ := h'
    by_cases h5 : a < k
    · by_cases hb : b = 0#8
      · simpa [Store.insert, h5, hb] using h
      · simp only [Store.insert, h5, BitVec.ofNat_eq_ofNat, hb, if_true, if_false, Store.wfFrom, Bool.and_eq_true,
          decide_eq_true_eq]
        exact ⟨⟨⟨hl, ha⟩, hb⟩, ⟨⟨by omega, h2⟩, h3⟩, h4⟩
    · by_cases h6 : a = k
      · by_cases hb : b = 0#8
        · simpa [Store.insert, h5, h6, hb] using wfFrom_mono h4 (by omega)
        · simp only [Store.insert, h6, lt_irrefl, BitVec.ofNat_eq_ofNat, hb, if_true, if_false, Store.wfFrom, Bool.and_eq_true,
            decide_eq_true_eq]
          exact ⟨⟨⟨h1, h2⟩, hb⟩, h4⟩
      · simp only [Store.insert, h5, h6, if_false, Store.wfFrom, Bool.and_eq_true, decide_eq_true_eq]
        exact ⟨⟨⟨h1, h2⟩, h3⟩, ih h4 (by omega)⟩

/-- A write to a canonical store leaves it canonical. -/
theorem wf_insert {m : Store} {a : Nat} (b : Byte) (h : m.wf = true) (ha : a < 32768) : (m.insert a b).wf = true :=
  wfFrom_insert b ha h (Nat.zero_le a)

theorem lookup_insert_from {m : Store} {a : Nat} (b : Byte) (x : Nat) :
    ∀ {lo : Nat}, Store.wfFrom lo m = true → Store.lookup (Store.insert m a b) x = if x = a then b else Store.lookup m x := by
  induction m with
  | nil =>
    intro lo _
    by_cases hb : b = 0#8 <;> by_cases hx : x = a <;> simp [Store.insert, Store.lookup, hb, hx]
  | cons c rest ih =>
    obtain ⟨k, v⟩ := c
    intro lo h
    have h' := h
    simp only [Store.wfFrom, Bool.and_eq_true, decide_eq_true_eq] at h'
    obtain ⟨⟨⟨h1, h2⟩, h3⟩, h4⟩ := h'
    by_cases h5 : a < k
    · by_cases hb : b = 0#8
      · by_cases hx : x = a
        · subst hx
          have hk : x ≠ k := by omega
          simp [Store.insert, h5, hb, Store.lookup, hk, lookup_below h4 (show x < k + 1 by omega)]
        · simp [Store.insert, h5, hb, hx]
      · by_cases hx : x = a <;> simp [Store.insert, h5, hb, Store.lookup, hx]
    · by_cases h6 : a = k
      · subst h6
        by_cases hb : b = 0#8
        · by_cases hx : x = a
          · subst hx
            simp [Store.insert, hb, lookup_below h4 (Nat.lt_succ_self x)]
          · simp [Store.insert, hb, Store.lookup, hx]
        · by_cases hx : x = a <;> simp [Store.insert, hb, Store.lookup, hx]
      · by_cases hx : x = a
        · subst hx
          have hk : x ≠ k := h6
          simp [Store.insert, h5, hk, Store.lookup, ih h4]
        · by_cases hk : x = k
          · subst hk; simp [Store.insert, h5, h6, Store.lookup, hx]
          · simp [Store.insert, h5, h6, Store.lookup, hx, hk, ih h4]

/-- A write to a canonical store changes the byte it names and no other. -/
theorem lookup_insert {m : Store} (a : Nat) (b : Byte) (x : Nat) (h : m.wf = true) :
    (m.insert a b).lookup x = if x = a then b else m.lookup x := lookup_insert_from b x h

/-! ### Bytes of the state -/

variable {s : State}

theorem storeAddr_lt (a : StoreAddr) : a.toNat < 32768 := a.isLt

theorem writeByte_storeOk (a : StoreAddr) (b : Byte) (h : s.storeOk) : (s.writeByte a b).storeOk :=
  wf_insert b h (storeAddr_lt a)

theorem byteAt_writeByte (a x : StoreAddr) (b : Byte) (h : s.storeOk) :
    (s.writeByte a b).byteAt x = if x = a then b else s.byteAt x := by
  have e : x.toNat = a.toNat ↔ x = a := BitVec.toNat_inj
  simp only [State.byteAt, store_writeByte, lookup_insert _ _ _ h, e]

/-- A run of bytes written leaves the store canonical. -/
theorem writeBytes_storeOk (bs : List Byte) : ∀ {s : State} (a : Word), s.storeOk → (s.writeBytes a bs).storeOk := by
  induction bs with
  | nil => intro s a h; exact h
  | cons b bs ih => intro s a h; exact ih (a + 1) (writeByte_storeOk _ _ h)

/-- A run of bytes written changes nothing but the store. -/
theorem writeBytes_eq (bs : List Byte) : ∀ (s : State) (a : Word),
    s.writeBytes a bs = s.withStore (s.writeBytes a bs).str.store := by
  induction bs with
  | nil => intro s a; rfl
  | cons b bs ih =>
    intro s a
    rw [State.writeBytes, ih]; rfl

@[simp] theorem writeBytes_ports (bs : List Byte) (s : State) (a : Word) : (s.writeBytes a bs).ports = s.ports := by
  rw [writeBytes_eq]; rfl
@[simp] theorem writeBytes_port (bs : List Byte) (s : State) (a : Word) (x : Port) :
    (s.writeBytes a bs).port x = s.port x := by rw [writeBytes_eq]; rfl
@[simp] theorem writeBytes_queue (bs : List Byte) (s : State) (a : Word) (x : Port) :
    (s.writeBytes a bs).queue x = s.queue x := by rw [writeBytes_eq]; rfl
@[simp] theorem writeBytes_seqNo (bs : List Byte) (s : State) (a : Word) (x : Port) :
    (s.writeBytes a bs).seqNo x = s.seqNo x := by rw [writeBytes_eq]; rfl
@[simp] theorem writeBytes_heldList (bs : List Byte) (s : State) (a : Word) (x : Port) :
    (s.writeBytes a bs).heldList x = s.heldList x := by rw [writeBytes_eq]; rfl
@[simp] theorem writeBytes_page (bs : List Byte) (s : State) (a : Word) (q : PageNo) :
    (s.writeBytes a bs).page q = s.page q := by rw [writeBytes_eq]; rfl
@[simp] theorem writeBytes_answer (bs : List Byte) (s : State) (a : Word) (u : UnitAddr) :
    (s.writeBytes a bs).answer u = s.answer u := by rw [writeBytes_eq]; rfl
@[simp] theorem writeBytes_ctb (bs : List Byte) (s : State) (a : Word) : (s.writeBytes a bs).ctb = s.ctb := by
  rw [writeBytes_eq]; rfl
@[simp] theorem writeBytes_ctx (bs : List Byte) (s : State) (a : Word) (v : UnitAddr) :
    (s.writeBytes a bs).ctx v = s.ctx v := by rw [writeBytes_eq]; rfl
@[simp] theorem writeBytes_lnk (bs : List Byte) (s : State) (a : Word) : (s.writeBytes a bs).lnk = s.lnk := by
  rw [writeBytes_eq]; rfl
@[simp] theorem writeBytes_rcm (bs : List Byte) (s : State) (a : Word) : (s.writeBytes a bs).rcm = s.rcm := by
  rw [writeBytes_eq]; rfl
@[simp] theorem writeBytes_pages (bs : List Byte) (s : State) (a : Word) :
    (s.writeBytes a bs).str.pages = s.str.pages := by rw [writeBytes_eq]; rfl
@[simp] theorem writeBytes_dsc (bs : List Byte) (s : State) (a : Word) : (s.writeBytes a bs).dsc = s.dsc := by
  rw [writeBytes_eq]; rfl
@[simp] theorem writeBytes_pending (bs : List Byte) (s : State) (a : Word) :
    (s.writeBytes a bs).pending = s.pending := by rw [writeBytes_eq]; rfl

/-- A run of bytes written inside the store puts each byte at its address and leaves every other byte alone. -/
theorem byteAt_writeBytes (bs : List Byte) : ∀ {s : State} (a : Word) (x : StoreAddr), s.storeOk →
    a.toNat + bs.length ≤ 32768 →
    (s.writeBytes a bs).byteAt x =
      if a.toNat ≤ x.toNat ∧ x.toNat < a.toNat + bs.length then bs.getD (x.toNat - a.toNat) 0 else s.byteAt x := by
  induction bs with
  | nil =>
    intro s a x _ _
    have : ¬ (a.toNat ≤ x.toNat ∧ x.toNat < a.toNat + ([] : List Byte).length) := by simp
    simp only [State.writeBytes, this, if_false]
  | cons b bs ih =>
    intro s a x h hb
    have hx := x.isLt
    simp only [List.length_cons] at hb
    by_cases hn : bs = []
    · subst hn
      have e : (x = lines a) ↔ x.toNat = a.toNat := by
        rw [← BitVec.toNat_inj]
        have : (lines a).toNat = a.toNat := by
          simp only [lines, BitVec.toNat_setWidth]; simp at hb; omega
        rw [this]
      simp only [State.writeBytes, byteAt_writeByte _ _ _ h, e]
      by_cases hc : x.toNat = a.toNat
      · simp [hc]
      · have : ¬ (a.toNat ≤ x.toNat ∧ x.toNat < a.toNat + [b].length) := by simp; omega
        simp only [hc, this, if_false]
    · have hl : 0 < bs.length := List.length_pos_iff.mpr hn
      have ha : (a + 1).toNat = a.toNat + 1 := by
        simp only [BitVec.toNat_add, show (1 : Word).toNat = 1 from rfl]; omega
      have hlines : (lines a).toNat = a.toNat := by
        simp only [lines, BitVec.toNat_setWidth]; omega
      have e : (x = lines a) ↔ x.toNat = a.toNat := by rw [← BitVec.toNat_inj, hlines]
      rw [State.writeBytes, ih (a + 1) x (writeByte_storeOk _ _ h) (by omega), byteAt_writeByte _ _ _ h, ha,
        List.length_cons]
      simp only [e]
      by_cases hc : x.toNat = a.toNat
      · simp [hc]
      · by_cases hd : a.toNat + 1 ≤ x.toNat ∧ x.toNat < a.toNat + 1 + bs.length
        · have hd2 : a.toNat ≤ x.toNat ∧ x.toNat < a.toNat + (bs.length + 1) := by omega
          have hs : x.toNat - a.toNat = (x.toNat - (a.toNat + 1)) + 1 := by omega
          simp only [hd, hd2, and_self, if_true, hs, List.getD_cons_succ]
        · have hd2 : ¬ (a.toNat ≤ x.toNat ∧ x.toNat < a.toNat + (bs.length + 1)) := by omega
          simp only [hd, hd2, hc, if_false]

@[simp] theorem readBytes_length (s : State) : ∀ (n : Nat) (a : Word), (s.readBytes a n).length = n := by
  intro n
  induction n with
  | zero => intro a; rfl
  | succ n ih => intro a; simp [State.readBytes, ih]

/-- A run of bytes read inside the store gives the byte at each address. -/
theorem readBytes_get (s : State) : ∀ (n i : Nat) (a : Word), i < n → a.toNat + n ≤ 32768 →
    (s.readBytes a n)[i]? = some (s.byteAt (BitVec.ofNat 15 (a.toNat + i))) := by
  intro n
  induction n with
  | zero => intro i a h; omega
  | succ n ih =>
    intro i a h hb
    have hlines : lines a = BitVec.ofNat 15 a.toNat := by
      rw [← BitVec.toNat_inj]; simp [lines, BitVec.toNat_setWidth]
    cases i with
    | zero => simp [State.readBytes, hlines]
    | succ i =>
      have ha : (a + 1).toNat = a.toNat + 1 := by
        simp only [BitVec.toNat_add, show (1 : Word).toNat = 1 from rfl]; omega
      simp only [State.readBytes, List.getElem?_cons_succ]
      rw [ih i (a + 1) (by omega) (by omega), ha]
      congr 3; omega

/-- The store right after reset is in canonical form. -/
theorem reset_store_wf : State.reset.str.store.wf = true := rfl

end Sys2Proof.Laws
end

