-- ==== Sys2Proof/Laws/Records.lean ====
section
/-! SUPPORT. What the shared operations of RCM leave alone: one lemma for each operation and each part of the state it never touches. -/

namespace Sys2Proof.Laws

open Sys2Proof.Machine

variable (s : State)

/-! ### lowerPage -/
@[simp] theorem lowerPage_ports (q : PageNo) :
    (s.lowerPage q).ports = s.ports := by
  simp only [State.lowerPage]; (repeat' split) <;> simp
@[simp] theorem lowerPage_port (q : PageNo) (y : Port) :
    (s.lowerPage q).port y = s.port y := by
  simp only [State.lowerPage]; (repeat' split) <;> simp
@[simp] theorem lowerPage_ctx (q : PageNo) (w : UnitAddr) :
    (s.lowerPage q).ctx w = s.ctx w := by
  simp only [State.lowerPage]; (repeat' split) <;> simp
@[simp] theorem lowerPage_selectQ (q : PageNo) :
    (s.lowerPage q).ctb.selectQ = s.ctb.selectQ := by
  simp only [State.lowerPage]; (repeat' split) <;> simp
@[simp] theorem lowerPage_stopQ (q : PageNo) :
    (s.lowerPage q).ctb.stopQ = s.ctb.stopQ := by
  simp only [State.lowerPage]; (repeat' split) <;> simp
@[simp] theorem lowerPage_lnk (q : PageNo) :
    (s.lowerPage q).lnk = s.lnk := by
  simp only [State.lowerPage]; (repeat' split) <;> simp
@[simp] theorem lowerPage_queue (q : PageNo) (y : Port) :
    (s.lowerPage q).queue y = s.queue y := by
  simp only [State.lowerPage]; (repeat' split) <;> simp
@[simp] theorem lowerPage_seqNo (q : PageNo) (y : Port) :
    (s.lowerPage q).seqNo y = s.seqNo y := by
  simp only [State.lowerPage]; (repeat' split) <;> simp
@[simp] theorem lowerPage_heldList (q : PageNo) (y : Port) :
    (s.lowerPage q).heldList y = s.heldList y := by
  simp only [State.lowerPage]; (repeat' split) <;> simp
@[simp] theorem lowerPage_deferred (q : PageNo) :
    (s.lowerPage q).rcm.deferred = s.rcm.deferred := by
  simp only [State.lowerPage]; (repeat' split) <;> simp
@[simp] theorem lowerPage_store (q : PageNo) :
    (s.lowerPage q).str.store = s.str.store := by
  simp only [State.lowerPage]; (repeat' split) <;> simp
@[simp] theorem lowerPage_dsc (q : PageNo) :
    (s.lowerPage q).dsc = s.dsc := by
  simp only [State.lowerPage]; (repeat' split) <;> simp
@[simp] theorem lowerPage_pending (q : PageNo) :
    (s.lowerPage q).pending = s.pending := by
  simp only [State.lowerPage]; (repeat' split) <;> simp

/-! ### raisePage -/
@[simp] theorem raisePage_ports (q : PageNo) :
    (s.raisePage q).ports = s.ports := by
  simp only [State.raisePage]; (repeat' split) <;> simp
@[simp] theorem raisePage_port (q : PageNo) (y : Port) :
    (s.raisePage q).port y = s.port y := by
  simp only [State.raisePage]; (repeat' split) <;> simp
@[simp] theorem raisePage_ctx (q : PageNo) (w : UnitAddr) :
    (s.raisePage q).ctx w = s.ctx w := by
  simp only [State.raisePage]; (repeat' split) <;> simp
@[simp] theorem raisePage_selectQ (q : PageNo) :
    (s.raisePage q).ctb.selectQ = s.ctb.selectQ := by
  simp only [State.raisePage]; (repeat' split) <;> simp
@[simp] theorem raisePage_stopQ (q : PageNo) :
    (s.raisePage q).ctb.stopQ = s.ctb.stopQ := by
  simp only [State.raisePage]; (repeat' split) <;> simp
@[simp] theorem raisePage_lnk (q : PageNo) :
    (s.raisePage q).lnk = s.lnk := by
  simp only [State.raisePage]; (repeat' split) <;> simp
@[simp] theorem raisePage_queue (q : PageNo) (y : Port) :
    (s.raisePage q).queue y = s.queue y := by
  simp only [State.raisePage]; (repeat' split) <;> simp
@[simp] theorem raisePage_seqNo (q : PageNo) (y : Port) :
    (s.raisePage q).seqNo y = s.seqNo y := by
  simp only [State.raisePage]; (repeat' split) <;> simp
@[simp] theorem raisePage_heldList (q : PageNo) (y : Port) :
    (s.raisePage q).heldList y = s.heldList y := by
  simp only [State.raisePage]; (repeat' split) <;> simp
@[simp] theorem raisePage_deferred (q : PageNo) :
    (s.raisePage q).rcm.deferred = s.rcm.deferred := by
  simp only [State.raisePage]; (repeat' split) <;> simp
@[simp] theorem raisePage_store (q : PageNo) :
    (s.raisePage q).str.store = s.str.store := by
  simp only [State.raisePage]; (repeat' split) <;> simp
@[simp] theorem raisePage_dsc (q : PageNo) :
    (s.raisePage q).dsc = s.dsc := by
  simp only [State.raisePage]; (repeat' split) <;> simp
@[simp] theorem raisePage_pending (q : PageNo) :
    (s.raisePage q).pending = s.pending := by
  simp only [State.raisePage]; (repeat' split) <;> simp

/-! ### lowerSeg -/
@[simp] theorem lowerSeg_ports (g : Option Segment) :
    (s.lowerSeg g).ports = s.ports := by
  simp only [State.lowerSeg]; (repeat' split) <;> simp
@[simp] theorem lowerSeg_port (g : Option Segment) (y : Port) :
    (s.lowerSeg g).port y = s.port y := by
  simp only [State.lowerSeg]; (repeat' split) <;> simp
@[simp] theorem lowerSeg_ctx (g : Option Segment) (w : UnitAddr) :
    (s.lowerSeg g).ctx w = s.ctx w := by
  simp only [State.lowerSeg]; (repeat' split) <;> simp
@[simp] theorem lowerSeg_selectQ (g : Option Segment) :
    (s.lowerSeg g).ctb.selectQ = s.ctb.selectQ := by
  simp only [State.lowerSeg]; (repeat' split) <;> simp
@[simp] theorem lowerSeg_stopQ (g : Option Segment) :
    (s.lowerSeg g).ctb.stopQ = s.ctb.stopQ := by
  simp only [State.lowerSeg]; (repeat' split) <;> simp
@[simp] theorem lowerSeg_lnk (g : Option Segment) :
    (s.lowerSeg g).lnk = s.lnk := by
  simp only [State.lowerSeg]; (repeat' split) <;> simp
@[simp] theorem lowerSeg_queue (g : Option Segment) (y : Port) :
    (s.lowerSeg g).queue y = s.queue y := by
  simp only [State.lowerSeg]; (repeat' split) <;> simp
@[simp] theorem lowerSeg_seqNo (g : Option Segment) (y : Port) :
    (s.lowerSeg g).seqNo y = s.seqNo y := by
  simp only [State.lowerSeg]; (repeat' split) <;> simp
@[simp] theorem lowerSeg_heldList (g : Option Segment) (y : Port) :
    (s.lowerSeg g).heldList y = s.heldList y := by
  simp only [State.lowerSeg]; (repeat' split) <;> simp
@[simp] theorem lowerSeg_deferred (g : Option Segment) :
    (s.lowerSeg g).rcm.deferred = s.rcm.deferred := by
  simp only [State.lowerSeg]; (repeat' split) <;> simp
@[simp] theorem lowerSeg_store (g : Option Segment) :
    (s.lowerSeg g).str.store = s.str.store := by
  simp only [State.lowerSeg]; (repeat' split) <;> simp
@[simp] theorem lowerSeg_dsc (g : Option Segment) :
    (s.lowerSeg g).dsc = s.dsc := by
  simp only [State.lowerSeg]; (repeat' split) <;> simp
@[simp] theorem lowerSeg_pending (g : Option Segment) :
    (s.lowerSeg g).pending = s.pending := by
  simp only [State.lowerSeg]; (repeat' split) <;> simp

@[simp] theorem lowerSeg_rcm (g : Option Segment) : (s.lowerSeg g).rcm = s.rcm := by cases g <;> rfl

/-! ### ceaseSegment -/
@[simp] theorem ceaseSegment_rcm (u : UnitAddr) : (ceaseSegment u s).rcm = s.rcm := by simp [ceaseSegment]
@[simp] theorem ceaseSegment_ports (u : UnitAddr) :
    (ceaseSegment u s).ports = s.ports := by
  simp only [ceaseSegment]; (repeat' split) <;> simp
@[simp] theorem ceaseSegment_port (u : UnitAddr) (y : Port) :
    (ceaseSegment u s).port y = s.port y := by
  simp only [ceaseSegment]; (repeat' split) <;> simp
@[simp] theorem ceaseSegment_selectQ (u : UnitAddr) :
    (ceaseSegment u s).ctb.selectQ = s.ctb.selectQ := by
  simp only [ceaseSegment]; (repeat' split) <;> simp
@[simp] theorem ceaseSegment_stopQ (u : UnitAddr) :
    (ceaseSegment u s).ctb.stopQ = s.ctb.stopQ := by
  simp only [ceaseSegment]; (repeat' split) <;> simp
@[simp] theorem ceaseSegment_lnk (u : UnitAddr) :
    (ceaseSegment u s).lnk = s.lnk := by
  simp only [ceaseSegment]; (repeat' split) <;> simp
@[simp] theorem ceaseSegment_queue (u : UnitAddr) (y : Port) :
    (ceaseSegment u s).queue y = s.queue y := by
  simp only [ceaseSegment]; (repeat' split) <;> simp
@[simp] theorem ceaseSegment_seqNo (u : UnitAddr) (y : Port) :
    (ceaseSegment u s).seqNo y = s.seqNo y := by
  simp only [ceaseSegment]; (repeat' split) <;> simp
@[simp] theorem ceaseSegment_heldList (u : UnitAddr) (y : Port) :
    (ceaseSegment u s).heldList y = s.heldList y := by
  simp only [ceaseSegment]; (repeat' split) <;> simp
@[simp] theorem ceaseSegment_deferred (u : UnitAddr) :
    (ceaseSegment u s).rcm.deferred = s.rcm.deferred := by
  simp only [ceaseSegment]; (repeat' split) <;> simp
@[simp] theorem ceaseSegment_store (u : UnitAddr) :
    (ceaseSegment u s).str.store = s.str.store := by
  simp only [ceaseSegment]; (repeat' split) <;> simp
@[simp] theorem ceaseSegment_dsc (u : UnitAddr) :
    (ceaseSegment u s).dsc = s.dsc := by
  simp only [ceaseSegment]; (repeat' split) <;> simp
@[simp] theorem ceaseSegment_pending (u : UnitAddr) :
    (ceaseSegment u s).pending = s.pending := by
  simp only [ceaseSegment]; (repeat' split) <;> simp

/-! ### goIdle -/
@[simp] theorem goIdle_rcm (u : UnitAddr) : (goIdle u s).rcm = s.rcm := by simp [goIdle]
@[simp] theorem goIdle_ports (u : UnitAddr) :
    (goIdle u s).ports = s.ports := by
  simp only [goIdle]; (repeat' split) <;> simp
@[simp] theorem goIdle_port (u : UnitAddr) (y : Port) :
    (goIdle u s).port y = s.port y := by
  simp only [goIdle]; (repeat' split) <;> simp
@[simp] theorem goIdle_selectQ (u : UnitAddr) :
    (goIdle u s).ctb.selectQ = s.ctb.selectQ := by
  simp only [goIdle]; (repeat' split) <;> simp
@[simp] theorem goIdle_stopQ (u : UnitAddr) :
    (goIdle u s).ctb.stopQ = s.ctb.stopQ := by
  simp only [goIdle]; (repeat' split) <;> simp
@[simp] theorem goIdle_lnk (u : UnitAddr) :
    (goIdle u s).lnk = s.lnk := by
  simp only [goIdle]; (repeat' split) <;> simp
@[simp] theorem goIdle_queue (u : UnitAddr) (y : Port) :
    (goIdle u s).queue y = s.queue y := by
  simp only [goIdle]; (repeat' split) <;> simp
@[simp] theorem goIdle_seqNo (u : UnitAddr) (y : Port) :
    (goIdle u s).seqNo y = s.seqNo y := by
  simp only [goIdle]; (repeat' split) <;> simp
@[simp] theorem goIdle_heldList (u : UnitAddr) (y : Port) :
    (goIdle u s).heldList y = s.heldList y := by
  simp only [goIdle]; (repeat' split) <;> simp
@[simp] theorem goIdle_deferred (u : UnitAddr) :
    (goIdle u s).rcm.deferred = s.rcm.deferred := by
  simp only [goIdle]; (repeat' split) <;> simp
@[simp] theorem goIdle_store (u : UnitAddr) :
    (goIdle u s).str.store = s.str.store := by
  simp only [goIdle]; (repeat' split) <;> simp
@[simp] theorem goIdle_dsc (u : UnitAddr) :
    (goIdle u s).dsc = s.dsc := by
  simp only [goIdle]; (repeat' split) <;> simp
@[simp] theorem goIdle_pending (u : UnitAddr) :
    (goIdle u s).pending = s.pending := by
  simp only [goIdle]; (repeat' split) <;> simp

/-! ### enqueue -/
@[simp] theorem enqueue_ports (p : Port) (b : RecordBody) :
    (enqueue p b s).ports = s.ports := by
  simp only [enqueue]; (repeat' split) <;> simp
@[simp] theorem enqueue_port (p : Port) (b : RecordBody) (y : Port) :
    (enqueue p b s).port y = s.port y := by
  simp only [enqueue]; (repeat' split) <;> simp
@[simp] theorem enqueue_ctx (p : Port) (b : RecordBody) (w : UnitAddr) :
    (enqueue p b s).ctx w = s.ctx w := by
  simp only [enqueue]; (repeat' split) <;> simp
@[simp] theorem enqueue_selectQ (p : Port) (b : RecordBody) :
    (enqueue p b s).ctb.selectQ = s.ctb.selectQ := by
  simp only [enqueue]; (repeat' split) <;> simp
@[simp] theorem enqueue_stopQ (p : Port) (b : RecordBody) :
    (enqueue p b s).ctb.stopQ = s.ctb.stopQ := by
  simp only [enqueue]; (repeat' split) <;> simp
@[simp] theorem enqueue_lnk (p : Port) (b : RecordBody) :
    (enqueue p b s).lnk = s.lnk := by
  simp only [enqueue]; (repeat' split) <;> simp
@[simp] theorem enqueue_heldList (p : Port) (b : RecordBody) (y : Port) :
    (enqueue p b s).heldList y = s.heldList y := by
  simp only [enqueue]; (repeat' split) <;> simp
@[simp] theorem enqueue_deferred (p : Port) (b : RecordBody) :
    (enqueue p b s).rcm.deferred = s.rcm.deferred := by
  simp only [enqueue]; (repeat' split) <;> simp
@[simp] theorem enqueue_page (p : Port) (b : RecordBody) (y : PageNo) :
    (enqueue p b s).page y = s.page y := by
  simp only [enqueue]; (repeat' split) <;> simp
@[simp] theorem enqueue_store (p : Port) (b : RecordBody) :
    (enqueue p b s).str.store = s.str.store := by
  simp only [enqueue]; (repeat' split) <;> simp
@[simp] theorem enqueue_dsc (p : Port) (b : RecordBody) :
    (enqueue p b s).dsc = s.dsc := by
  simp only [enqueue]; (repeat' split) <;> simp
@[simp] theorem enqueue_pending (p : Port) (b : RecordBody) :
    (enqueue p b s).pending = s.pending := by
  simp only [enqueue]; (repeat' split) <;> simp

/-! ### offerNotice -/
@[simp] theorem offerNotice_ctx (p : Port) (c : NoticeCode) (a : Option Nat) (w : UnitAddr) :
    (offerNotice p c a s).ctx w = s.ctx w := by
  simp only [offerNotice]; (repeat' split) <;> simp
@[simp] theorem offerNotice_selectQ (p : Port) (c : NoticeCode) (a : Option Nat) :
    (offerNotice p c a s).ctb.selectQ = s.ctb.selectQ := by
  simp only [offerNotice]; (repeat' split) <;> simp
@[simp] theorem offerNotice_stopQ (p : Port) (c : NoticeCode) (a : Option Nat) :
    (offerNotice p c a s).ctb.stopQ = s.ctb.stopQ := by
  simp only [offerNotice]; (repeat' split) <;> simp
@[simp] theorem offerNotice_lnk (p : Port) (c : NoticeCode) (a : Option Nat) :
    (offerNotice p c a s).lnk = s.lnk := by
  simp only [offerNotice]; (repeat' split) <;> simp
@[simp] theorem offerNotice_heldList (p : Port) (c : NoticeCode) (a : Option Nat) (y : Port) :
    (offerNotice p c a s).heldList y = s.heldList y := by
  simp only [offerNotice]; (repeat' split) <;> simp
@[simp] theorem offerNotice_deferred (p : Port) (c : NoticeCode) (a : Option Nat) :
    (offerNotice p c a s).rcm.deferred = s.rcm.deferred := by
  simp only [offerNotice]; (repeat' split) <;> simp
@[simp] theorem offerNotice_page (p : Port) (c : NoticeCode) (a : Option Nat) (y : PageNo) :
    (offerNotice p c a s).page y = s.page y := by
  simp only [offerNotice]; (repeat' split) <;> simp
@[simp] theorem offerNotice_store (p : Port) (c : NoticeCode) (a : Option Nat) :
    (offerNotice p c a s).str.store = s.str.store := by
  simp only [offerNotice]; (repeat' split) <;> simp
@[simp] theorem offerNotice_dsc (p : Port) (c : NoticeCode) (a : Option Nat) :
    (offerNotice p c a s).dsc = s.dsc := by
  simp only [offerNotice]; (repeat' split) <;> simp
@[simp] theorem offerNotice_pending (p : Port) (c : NoticeCode) (a : Option Nat) :
    (offerNotice p c a s).pending = s.pending := by
  simp only [offerNotice]; (repeat' split) <;> simp

/-! ### offerBoth -/
@[simp] theorem offerBoth_ctx (c : NoticeCode) (a : Option Nat) (w : UnitAddr) :
    (offerBoth c a s).ctx w = s.ctx w := by
  simp only [offerBoth]; (repeat' split) <;> simp
@[simp] theorem offerBoth_selectQ (c : NoticeCode) (a : Option Nat) :
    (offerBoth c a s).ctb.selectQ = s.ctb.selectQ := by
  simp only [offerBoth]; (repeat' split) <;> simp
@[simp] theorem offerBoth_stopQ (c : NoticeCode) (a : Option Nat) :
    (offerBoth c a s).ctb.stopQ = s.ctb.stopQ := by
  simp only [offerBoth]; (repeat' split) <;> simp
@[simp] theorem offerBoth_lnk (c : NoticeCode) (a : Option Nat) :
    (offerBoth c a s).lnk = s.lnk := by
  simp only [offerBoth]; (repeat' split) <;> simp
@[simp] theorem offerBoth_heldList (c : NoticeCode) (a : Option Nat) (y : Port) :
    (offerBoth c a s).heldList y = s.heldList y := by
  simp only [offerBoth]; (repeat' split) <;> simp
@[simp] theorem offerBoth_deferred (c : NoticeCode) (a : Option Nat) :
    (offerBoth c a s).rcm.deferred = s.rcm.deferred := by
  simp only [offerBoth]; (repeat' split) <;> simp
@[simp] theorem offerBoth_page (c : NoticeCode) (a : Option Nat) (y : PageNo) :
    (offerBoth c a s).page y = s.page y := by
  simp only [offerBoth]; (repeat' split) <;> simp
@[simp] theorem offerBoth_store (c : NoticeCode) (a : Option Nat) :
    (offerBoth c a s).str.store = s.str.store := by
  simp only [offerBoth]; (repeat' split) <;> simp
@[simp] theorem offerBoth_dsc (c : NoticeCode) (a : Option Nat) :
    (offerBoth c a s).dsc = s.dsc := by
  simp only [offerBoth]; (repeat' split) <;> simp
@[simp] theorem offerBoth_pending (c : NoticeCode) (a : Option Nat) :
    (offerBoth c a s).pending = s.pending := by
  simp only [offerBoth]; (repeat' split) <;> simp

/-! ### offerMilestone -/
@[simp] theorem offerMilestone_ports (u : UnitAddr) (a : Word) :
    (offerMilestone u a s).ports = s.ports := by
  simp only [offerMilestone]; (repeat' split) <;> simp
@[simp] theorem offerMilestone_port (u : UnitAddr) (a : Word) (y : Port) :
    (offerMilestone u a s).port y = s.port y := by
  simp only [offerMilestone]; (repeat' split) <;> simp
@[simp] theorem offerMilestone_selectQ (u : UnitAddr) (a : Word) :
    (offerMilestone u a s).ctb.selectQ = s.ctb.selectQ := by
  simp only [offerMilestone]; (repeat' split) <;> simp
@[simp] theorem offerMilestone_stopQ (u : UnitAddr) (a : Word) :
    (offerMilestone u a s).ctb.stopQ = s.ctb.stopQ := by
  simp only [offerMilestone]; (repeat' split) <;> simp
@[simp] theorem offerMilestone_lnk (u : UnitAddr) (a : Word) :
    (offerMilestone u a s).lnk = s.lnk := by
  simp only [offerMilestone]; (repeat' split) <;> simp
@[simp] theorem offerMilestone_heldList (u : UnitAddr) (a : Word) (y : Port) :
    (offerMilestone u a s).heldList y = s.heldList y := by
  simp only [offerMilestone]; (repeat' split) <;> simp
@[simp] theorem offerMilestone_deferred (u : UnitAddr) (a : Word) :
    (offerMilestone u a s).rcm.deferred = s.rcm.deferred := by
  simp only [offerMilestone]; (repeat' split) <;> simp
@[simp] theorem offerMilestone_page (u : UnitAddr) (a : Word) (y : PageNo) :
    (offerMilestone u a s).page y = s.page y := by
  simp only [offerMilestone]; (repeat' split) <;> simp
@[simp] theorem offerMilestone_store (u : UnitAddr) (a : Word) :
    (offerMilestone u a s).str.store = s.str.store := by
  simp only [offerMilestone]; (repeat' split) <;> simp
@[simp] theorem offerMilestone_dsc (u : UnitAddr) (a : Word) :
    (offerMilestone u a s).dsc = s.dsc := by
  simp only [offerMilestone]; (repeat' split) <;> simp
@[simp] theorem offerMilestone_pending (u : UnitAddr) (a : Word) :
    (offerMilestone u a s).pending = s.pending := by
  simp only [offerMilestone]; (repeat' split) <;> simp

/-! ### holdRecord -/
@[simp] theorem holdRecord_ports (p : Port) (u : UnitAddr) (r : Completion) :
    (holdRecord p u r s).ports = s.ports := by
  simp only [holdRecord]; (repeat' split) <;> simp
@[simp] theorem holdRecord_port (p : Port) (u : UnitAddr) (r : Completion) (y : Port) :
    (holdRecord p u r s).port y = s.port y := by
  simp only [holdRecord]; (repeat' split) <;> simp
@[simp] theorem holdRecord_selectQ (p : Port) (u : UnitAddr) (r : Completion) :
    (holdRecord p u r s).ctb.selectQ = s.ctb.selectQ := by
  simp only [holdRecord]; (repeat' split) <;> simp
@[simp] theorem holdRecord_stopQ (p : Port) (u : UnitAddr) (r : Completion) :
    (holdRecord p u r s).ctb.stopQ = s.ctb.stopQ := by
  simp only [holdRecord]; (repeat' split) <;> simp
@[simp] theorem holdRecord_lnk (p : Port) (u : UnitAddr) (r : Completion) :
    (holdRecord p u r s).lnk = s.lnk := by
  simp only [holdRecord]; (repeat' split) <;> simp
@[simp] theorem holdRecord_queue (p : Port) (u : UnitAddr) (r : Completion) (y : Port) :
    (holdRecord p u r s).queue y = s.queue y := by
  simp only [holdRecord]; (repeat' split) <;> simp
@[simp] theorem holdRecord_seqNo (p : Port) (u : UnitAddr) (r : Completion) (y : Port) :
    (holdRecord p u r s).seqNo y = s.seqNo y := by
  simp only [holdRecord]; (repeat' split) <;> simp
@[simp] theorem holdRecord_deferred (p : Port) (u : UnitAddr) (r : Completion) :
    (holdRecord p u r s).rcm.deferred = s.rcm.deferred := by
  simp only [holdRecord]; (repeat' split) <;> simp
@[simp] theorem holdRecord_page (p : Port) (u : UnitAddr) (r : Completion) (y : PageNo) :
    (holdRecord p u r s).page y = s.page y := by
  simp only [holdRecord]; (repeat' split) <;> simp
@[simp] theorem holdRecord_store (p : Port) (u : UnitAddr) (r : Completion) :
    (holdRecord p u r s).str.store = s.str.store := by
  simp only [holdRecord]; (repeat' split) <;> simp
@[simp] theorem holdRecord_dsc (p : Port) (u : UnitAddr) (r : Completion) :
    (holdRecord p u r s).dsc = s.dsc := by
  simp only [holdRecord]; (repeat' split) <;> simp
@[simp] theorem holdRecord_pending (p : Port) (u : UnitAddr) (r : Completion) :
    (holdRecord p u r s).pending = s.pending := by
  simp only [holdRecord]; (repeat' split) <;> simp

/-! ### offerCompletion -/
@[simp] theorem offerCompletion_ports (p : Port) (u : UnitAddr) (r : Completion) :
    (offerCompletion p u r s).ports = s.ports := by
  simp only [offerCompletion]; (repeat' split) <;> simp
@[simp] theorem offerCompletion_port (p : Port) (u : UnitAddr) (r : Completion) (y : Port) :
    (offerCompletion p u r s).port y = s.port y := by
  simp only [offerCompletion]; (repeat' split) <;> simp
@[simp] theorem offerCompletion_selectQ (p : Port) (u : UnitAddr) (r : Completion) :
    (offerCompletion p u r s).ctb.selectQ = s.ctb.selectQ := by
  simp only [offerCompletion]; (repeat' split) <;> simp
@[simp] theorem offerCompletion_stopQ (p : Port) (u : UnitAddr) (r : Completion) :
    (offerCompletion p u r s).ctb.stopQ = s.ctb.stopQ := by
  simp only [offerCompletion]; (repeat' split) <;> simp
@[simp] theorem offerCompletion_lnk (p : Port) (u : UnitAddr) (r : Completion) :
    (offerCompletion p u r s).lnk = s.lnk := by
  simp only [offerCompletion]; (repeat' split) <;> simp
@[simp] theorem offerCompletion_deferred (p : Port) (u : UnitAddr) (r : Completion) :
    (offerCompletion p u r s).rcm.deferred = s.rcm.deferred := by
  simp only [offerCompletion]; (repeat' split) <;> simp
@[simp] theorem offerCompletion_store (p : Port) (u : UnitAddr) (r : Completion) :
    (offerCompletion p u r s).str.store = s.str.store := by
  simp only [offerCompletion]; (repeat' split) <;> simp
@[simp] theorem offerCompletion_dsc (p : Port) (u : UnitAddr) (r : Completion) :
    (offerCompletion p u r s).dsc = s.dsc := by
  simp only [offerCompletion]; (repeat' split) <;> simp
@[simp] theorem offerCompletion_pending (p : Port) (u : UnitAddr) (r : Completion) :
    (offerCompletion p u r s).pending = s.pending := by
  simp only [offerCompletion]; (repeat' split) <;> simp

/-! ### refill -/
@[simp] theorem refill_ports (p : Port) :
    (refill p s).ports = s.ports := by
  simp only [refill]; (repeat' split) <;> simp
@[simp] theorem refill_port (p : Port) (y : Port) :
    (refill p s).port y = s.port y := by
  simp only [refill]; (repeat' split) <;> simp
@[simp] theorem refill_selectQ (p : Port) :
    (refill p s).ctb.selectQ = s.ctb.selectQ := by
  simp only [refill]; (repeat' split) <;> simp
@[simp] theorem refill_stopQ (p : Port) :
    (refill p s).ctb.stopQ = s.ctb.stopQ := by
  simp only [refill]; (repeat' split) <;> simp
@[simp] theorem refill_lnk (p : Port) :
    (refill p s).lnk = s.lnk := by
  simp only [refill]; (repeat' split) <;> simp
@[simp] theorem refill_deferred (p : Port) :
    (refill p s).rcm.deferred = s.rcm.deferred := by
  simp only [refill]; (repeat' split) <;> simp
@[simp] theorem refill_store (p : Port) :
    (refill p s).str.store = s.str.store := by
  simp only [refill]; (repeat' split) <;> simp
@[simp] theorem refill_dsc (p : Port) :
    (refill p s).dsc = s.dsc := by
  simp only [refill]; (repeat' split) <;> simp
@[simp] theorem refill_pending (p : Port) :
    (refill p s).pending = s.pending := by
  simp only [refill]; (repeat' split) <;> simp

/-! ### removeHead -/
@[simp] theorem removeHead_ports (p : Port) :
    (removeHead p s).ports = s.ports := by
  simp only [removeHead]; (repeat' split) <;> simp
@[simp] theorem removeHead_port (p : Port) (y : Port) :
    (removeHead p s).port y = s.port y := by
  simp only [removeHead]; (repeat' split) <;> simp
@[simp] theorem removeHead_selectQ (p : Port) :
    (removeHead p s).ctb.selectQ = s.ctb.selectQ := by
  simp only [removeHead]; (repeat' split) <;> simp
@[simp] theorem removeHead_stopQ (p : Port) :
    (removeHead p s).ctb.stopQ = s.ctb.stopQ := by
  simp only [removeHead]; (repeat' split) <;> simp
@[simp] theorem removeHead_lnk (p : Port) :
    (removeHead p s).lnk = s.lnk := by
  simp only [removeHead]; (repeat' split) <;> simp
@[simp] theorem removeHead_deferred (p : Port) :
    (removeHead p s).rcm.deferred = s.rcm.deferred := by
  simp only [removeHead]; (repeat' split) <;> simp
@[simp] theorem removeHead_store (p : Port) :
    (removeHead p s).str.store = s.str.store := by
  simp only [removeHead]; (repeat' split) <;> simp
@[simp] theorem removeHead_dsc (p : Port) :
    (removeHead p s).dsc = s.dsc := by
  simp only [removeHead]; (repeat' split) <;> simp
@[simp] theorem removeHead_pending (p : Port) :
    (removeHead p s).pending = s.pending := by
  simp only [removeHead]; (repeat' split) <;> simp

/-! ### placeAttention -/
@[simp] theorem placeAttention_ports (u : UnitAddr) (st : UStatus) :
    (placeAttention u st s).ports = s.ports := by
  simp only [placeAttention]; (repeat' split) <;> simp
@[simp] theorem placeAttention_port (u : UnitAddr) (st : UStatus) (y : Port) :
    (placeAttention u st s).port y = s.port y := by
  simp only [placeAttention]; (repeat' split) <;> simp
@[simp] theorem placeAttention_ctx (u : UnitAddr) (st : UStatus) (w : UnitAddr) :
    (placeAttention u st s).ctx w = s.ctx w := by
  simp only [placeAttention]; (repeat' split) <;> simp
@[simp] theorem placeAttention_selectQ (u : UnitAddr) (st : UStatus) :
    (placeAttention u st s).ctb.selectQ = s.ctb.selectQ := by
  simp only [placeAttention]; (repeat' split) <;> simp
@[simp] theorem placeAttention_stopQ (u : UnitAddr) (st : UStatus) :
    (placeAttention u st s).ctb.stopQ = s.ctb.stopQ := by
  simp only [placeAttention]; (repeat' split) <;> simp
@[simp] theorem placeAttention_lnk (u : UnitAddr) (st : UStatus) :
    (placeAttention u st s).lnk = s.lnk := by
  simp only [placeAttention]; (repeat' split) <;> simp
@[simp] theorem placeAttention_heldList (u : UnitAddr) (st : UStatus) (y : Port) :
    (placeAttention u st s).heldList y = s.heldList y := by
  simp only [placeAttention]; (repeat' split) <;> simp
@[simp] theorem placeAttention_deferred (u : UnitAddr) (st : UStatus) :
    (placeAttention u st s).rcm.deferred = s.rcm.deferred := by
  simp only [placeAttention]; (repeat' split) <;> simp
@[simp] theorem placeAttention_page (u : UnitAddr) (st : UStatus) (y : PageNo) :
    (placeAttention u st s).page y = s.page y := by
  simp only [placeAttention]; (repeat' split) <;> simp
@[simp] theorem placeAttention_store (u : UnitAddr) (st : UStatus) :
    (placeAttention u st s).str.store = s.str.store := by
  simp only [placeAttention]; (repeat' split) <;> simp
@[simp] theorem placeAttention_dsc (u : UnitAddr) (st : UStatus) :
    (placeAttention u st s).dsc = s.dsc := by
  simp only [placeAttention]; (repeat' split) <;> simp
@[simp] theorem placeAttention_pending (u : UnitAddr) (st : UStatus) :
    (placeAttention u st s).pending = s.pending := by
  simp only [placeAttention]; (repeat' split) <;> simp

/-! ### takeUnsolicited -/
@[simp] theorem takeUnsolicited_ports (u : UnitAddr) (st : UStatus) :
    (takeUnsolicited u st s).1.ports = s.ports := by
  simp only [takeUnsolicited]; (repeat' split) <;> simp
@[simp] theorem takeUnsolicited_port (u : UnitAddr) (st : UStatus) (y : Port) :
    (takeUnsolicited u st s).1.port y = s.port y := by
  simp only [takeUnsolicited]; (repeat' split) <;> simp
@[simp] theorem takeUnsolicited_ctx (u : UnitAddr) (st : UStatus) (w : UnitAddr) :
    (takeUnsolicited u st s).1.ctx w = s.ctx w := by
  simp only [takeUnsolicited]; (repeat' split) <;> simp
@[simp] theorem takeUnsolicited_selectQ (u : UnitAddr) (st : UStatus) :
    (takeUnsolicited u st s).1.ctb.selectQ = s.ctb.selectQ := by
  simp only [takeUnsolicited]; (repeat' split) <;> simp
@[simp] theorem takeUnsolicited_stopQ (u : UnitAddr) (st : UStatus) :
    (takeUnsolicited u st s).1.ctb.stopQ = s.ctb.stopQ := by
  simp only [takeUnsolicited]; (repeat' split) <;> simp
@[simp] theorem takeUnsolicited_lnk (u : UnitAddr) (st : UStatus) :
    (takeUnsolicited u st s).1.lnk = s.lnk := by
  simp only [takeUnsolicited]; (repeat' split) <;> simp
@[simp] theorem takeUnsolicited_heldList (u : UnitAddr) (st : UStatus) (y : Port) :
    (takeUnsolicited u st s).1.heldList y = s.heldList y := by
  simp only [takeUnsolicited]; (repeat' split) <;> simp
@[simp] theorem takeUnsolicited_page (u : UnitAddr) (st : UStatus) (y : PageNo) :
    (takeUnsolicited u st s).1.page y = s.page y := by
  simp only [takeUnsolicited]; (repeat' split) <;> simp
@[simp] theorem takeUnsolicited_store (u : UnitAddr) (st : UStatus) :
    (takeUnsolicited u st s).1.str.store = s.str.store := by
  simp only [takeUnsolicited]; (repeat' split) <;> simp
@[simp] theorem takeUnsolicited_dsc (u : UnitAddr) (st : UStatus) :
    (takeUnsolicited u st s).1.dsc = s.dsc := by
  simp only [takeUnsolicited]; (repeat' split) <;> simp
@[simp] theorem takeUnsolicited_pending (u : UnitAddr) (st : UStatus) :
    (takeUnsolicited u st s).1.pending = s.pending := by
  simp only [takeUnsolicited]; (repeat' split) <;> simp

/-! ### takeDeferred -/
@[simp] theorem takeDeferred_ports (u : UnitAddr) (st : UStatus) :
    (takeDeferred u st s).1.ports = s.ports := by
  simp only [takeDeferred]; (repeat' split) <;> simp
@[simp] theorem takeDeferred_port (u : UnitAddr) (st : UStatus) (y : Port) :
    (takeDeferred u st s).1.port y = s.port y := by
  simp only [takeDeferred]; (repeat' split) <;> simp
@[simp] theorem takeDeferred_ctx (u : UnitAddr) (st : UStatus) (w : UnitAddr) :
    (takeDeferred u st s).1.ctx w = s.ctx w := by
  simp only [takeDeferred]; (repeat' split) <;> simp
@[simp] theorem takeDeferred_selectQ (u : UnitAddr) (st : UStatus) :
    (takeDeferred u st s).1.ctb.selectQ = s.ctb.selectQ := by
  simp only [takeDeferred]; (repeat' split) <;> simp
@[simp] theorem takeDeferred_stopQ (u : UnitAddr) (st : UStatus) :
    (takeDeferred u st s).1.ctb.stopQ = s.ctb.stopQ := by
  simp only [takeDeferred]; (repeat' split) <;> simp
@[simp] theorem takeDeferred_lnk (u : UnitAddr) (st : UStatus) :
    (takeDeferred u st s).1.lnk = s.lnk := by
  simp only [takeDeferred]; (repeat' split) <;> simp
@[simp] theorem takeDeferred_heldList (u : UnitAddr) (st : UStatus) (y : Port) :
    (takeDeferred u st s).1.heldList y = s.heldList y := by
  simp only [takeDeferred]; (repeat' split) <;> simp
@[simp] theorem takeDeferred_page (u : UnitAddr) (st : UStatus) (y : PageNo) :
    (takeDeferred u st s).1.page y = s.page y := by
  simp only [takeDeferred]; (repeat' split) <;> simp
@[simp] theorem takeDeferred_store (u : UnitAddr) (st : UStatus) :
    (takeDeferred u st s).1.str.store = s.str.store := by
  simp only [takeDeferred]; (repeat' split) <;> simp
@[simp] theorem takeDeferred_dsc (u : UnitAddr) (st : UStatus) :
    (takeDeferred u st s).1.dsc = s.dsc := by
  simp only [takeDeferred]; (repeat' split) <;> simp
@[simp] theorem takeDeferred_pending (u : UnitAddr) (st : UStatus) :
    (takeDeferred u st s).1.pending = s.pending := by
  simp only [takeDeferred]; (repeat' split) <;> simp

/-! ### offerStray -/
@[simp] theorem offerStray_ctx (u : UnitAddr) (w : UnitAddr) :
    (offerStray u s).ctx w = s.ctx w := by
  simp only [offerStray]; (repeat' split) <;> simp
@[simp] theorem offerStray_selectQ (u : UnitAddr) :
    (offerStray u s).ctb.selectQ = s.ctb.selectQ := by
  simp only [offerStray]; (repeat' split) <;> simp
@[simp] theorem offerStray_stopQ (u : UnitAddr) :
    (offerStray u s).ctb.stopQ = s.ctb.stopQ := by
  simp only [offerStray]; (repeat' split) <;> simp
@[simp] theorem offerStray_lnk (u : UnitAddr) :
    (offerStray u s).lnk = s.lnk := by
  simp only [offerStray]; (repeat' split) <;> simp
@[simp] theorem offerStray_heldList (u : UnitAddr) (y : Port) :
    (offerStray u s).heldList y = s.heldList y := by
  simp only [offerStray]; (repeat' split) <;> simp
@[simp] theorem offerStray_deferred (u : UnitAddr) :
    (offerStray u s).rcm.deferred = s.rcm.deferred := by
  simp only [offerStray]; (repeat' split) <;> simp
@[simp] theorem offerStray_page (u : UnitAddr) (y : PageNo) :
    (offerStray u s).page y = s.page y := by
  simp only [offerStray]; (repeat' split) <;> simp
@[simp] theorem offerStray_store (u : UnitAddr) :
    (offerStray u s).str.store = s.str.store := by
  simp only [offerStray]; (repeat' split) <;> simp
@[simp] theorem offerStray_dsc (u : UnitAddr) :
    (offerStray u s).dsc = s.dsc := by
  simp only [offerStray]; (repeat' split) <;> simp
@[simp] theorem offerStray_pending (u : UnitAddr) :
    (offerStray u s).pending = s.pending := by
  simp only [offerStray]; (repeat' split) <;> simp

/-! ### recallLost -/
@[simp] theorem recallLost_ctx (u : UnitAddr) (w : UnitAddr) :
    (recallLost u s).ctx w = s.ctx w := by
  simp only [recallLost]; (repeat' split) <;> simp
@[simp] theorem recallLost_selectQ (u : UnitAddr) :
    (recallLost u s).ctb.selectQ = s.ctb.selectQ := by
  simp only [recallLost]; (repeat' split) <;> simp
@[simp] theorem recallLost_stopQ (u : UnitAddr) :
    (recallLost u s).ctb.stopQ = s.ctb.stopQ := by
  simp only [recallLost]; (repeat' split) <;> simp
@[simp] theorem recallLost_lnk (u : UnitAddr) :
    (recallLost u s).lnk = s.lnk := by
  simp only [recallLost]; (repeat' split) <;> simp
@[simp] theorem recallLost_heldList (u : UnitAddr) (y : Port) :
    (recallLost u s).heldList y = s.heldList y := by
  simp only [recallLost]; (repeat' split) <;> simp
@[simp] theorem recallLost_page (u : UnitAddr) (y : PageNo) :
    (recallLost u s).page y = s.page y := by
  simp only [recallLost]; (repeat' split) <;> simp
@[simp] theorem recallLost_store (u : UnitAddr) :
    (recallLost u s).str.store = s.str.store := by
  simp only [recallLost]; (repeat' split) <;> simp
@[simp] theorem recallLost_dsc (u : UnitAddr) :
    (recallLost u s).dsc = s.dsc := by
  simp only [recallLost]; (repeat' split) <;> simp
@[simp] theorem recallLost_pending (u : UnitAddr) :
    (recallLost u s).pending = s.pending := by
  simp only [recallLost]; (repeat' split) <;> simp

end Sys2Proof.Laws
end

