-- ==== Sys2Proof/Laws/Orders.lean ====
section
/-! SUPPORT. What the shared operations of CTB leave alone: one lemma for each operation and each part of the state it never touches. -/

namespace Sys2Proof.Laws

open Sys2Proof.Machine

variable (s : State)

/-! ### dataFault -/
@[simp] theorem dataFault_ports (u : UnitAddr) (x : Cond) :
    (dataFault u x s).ports = s.ports := by
  simp only [dataFault]; (repeat' split) <;> simp
@[simp] theorem dataFault_port (u : UnitAddr) (x : Cond) (y : Port) :
    (dataFault u x s).port y = s.port y := by
  simp only [dataFault]; (repeat' split) <;> simp
@[simp] theorem dataFault_selectQ (u : UnitAddr) (x : Cond) :
    (dataFault u x s).ctb.selectQ = s.ctb.selectQ := by
  simp only [dataFault]; (repeat' split) <;> simp
@[simp] theorem dataFault_stopQ (u : UnitAddr) (x : Cond) :
    (dataFault u x s).ctb.stopQ = s.ctb.stopQ := by
  simp only [dataFault]; (repeat' split) <;> simp
@[simp] theorem dataFault_lnk (u : UnitAddr) (x : Cond) :
    (dataFault u x s).lnk = s.lnk := by
  simp only [dataFault]; (repeat' split) <;> simp
@[simp] theorem dataFault_queue (u : UnitAddr) (x : Cond) (y : Port) :
    (dataFault u x s).queue y = s.queue y := by
  simp only [dataFault]; (repeat' split) <;> simp
@[simp] theorem dataFault_seqNo (u : UnitAddr) (x : Cond) (y : Port) :
    (dataFault u x s).seqNo y = s.seqNo y := by
  simp only [dataFault]; (repeat' split) <;> simp
@[simp] theorem dataFault_heldList (u : UnitAddr) (x : Cond) (y : Port) :
    (dataFault u x s).heldList y = s.heldList y := by
  simp only [dataFault]; (repeat' split) <;> simp
@[simp] theorem dataFault_deferred (u : UnitAddr) (x : Cond) :
    (dataFault u x s).rcm.deferred = s.rcm.deferred := by
  simp only [dataFault]; (repeat' split) <;> simp
@[simp] theorem dataFault_page (u : UnitAddr) (x : Cond) (y : PageNo) :
    (dataFault u x s).page y = s.page y := by
  simp only [dataFault]; (repeat' split) <;> simp
@[simp] theorem dataFault_store (u : UnitAddr) (x : Cond) :
    (dataFault u x s).str.store = s.str.store := by
  simp only [dataFault]; (repeat' split) <;> simp
@[simp] theorem dataFault_dsc (u : UnitAddr) (x : Cond) :
    (dataFault u x s).dsc = s.dsc := by
  simp only [dataFault]; (repeat' split) <;> simp
@[simp] theorem dataFault_pending (u : UnitAddr) (x : Cond) :
    (dataFault u x s).pending = s.pending := by
  simp only [dataFault]; (repeat' split) <;> simp

/-! ### becomeCurrent -/
@[simp] theorem becomeCurrent_ports (u : UnitAddr) (a n : Word) :
    (becomeCurrent u a n.toNat s).1.ports = s.ports := by
  simp only [becomeCurrent]; (repeat' split) <;> simp
@[simp] theorem becomeCurrent_port (u : UnitAddr) (a n : Word) (y : Port) :
    (becomeCurrent u a n.toNat s).1.port y = s.port y := by
  simp only [becomeCurrent]; (repeat' split) <;> simp
@[simp] theorem becomeCurrent_selectQ (u : UnitAddr) (a n : Word) :
    (becomeCurrent u a n.toNat s).1.ctb.selectQ = s.ctb.selectQ := by
  simp only [becomeCurrent]; (repeat' split) <;> simp
@[simp] theorem becomeCurrent_stopQ (u : UnitAddr) (a n : Word) :
    (becomeCurrent u a n.toNat s).1.ctb.stopQ = s.ctb.stopQ := by
  simp only [becomeCurrent]; (repeat' split) <;> simp
@[simp] theorem becomeCurrent_lnk (u : UnitAddr) (a n : Word) :
    (becomeCurrent u a n.toNat s).1.lnk = s.lnk := by
  simp only [becomeCurrent]; (repeat' split) <;> simp
@[simp] theorem becomeCurrent_queue (u : UnitAddr) (a n : Word) (y : Port) :
    (becomeCurrent u a n.toNat s).1.queue y = s.queue y := by
  simp only [becomeCurrent]; (repeat' split) <;> simp
@[simp] theorem becomeCurrent_seqNo (u : UnitAddr) (a n : Word) (y : Port) :
    (becomeCurrent u a n.toNat s).1.seqNo y = s.seqNo y := by
  simp only [becomeCurrent]; (repeat' split) <;> simp
@[simp] theorem becomeCurrent_heldList (u : UnitAddr) (a n : Word) (y : Port) :
    (becomeCurrent u a n.toNat s).1.heldList y = s.heldList y := by
  simp only [becomeCurrent]; (repeat' split) <;> simp
@[simp] theorem becomeCurrent_deferred (u : UnitAddr) (a n : Word) :
    (becomeCurrent u a n.toNat s).1.rcm.deferred = s.rcm.deferred := by
  simp only [becomeCurrent]; (repeat' split) <;> simp
@[simp] theorem becomeCurrent_store (u : UnitAddr) (a n : Word) :
    (becomeCurrent u a n.toNat s).1.str.store = s.str.store := by
  simp only [becomeCurrent]; (repeat' split) <;> simp
@[simp] theorem becomeCurrent_dsc (u : UnitAddr) (a n : Word) :
    (becomeCurrent u a n.toNat s).1.dsc = s.dsc := by
  simp only [becomeCurrent]; (repeat' split) <;> simp
@[simp] theorem becomeCurrent_pending (u : UnitAddr) (a n : Word) :
    (becomeCurrent u a n.toNat s).1.pending = s.pending := by
  simp only [becomeCurrent]; (repeat' split) <;> simp

/-! ### testLookahead -/
@[simp] theorem testLookahead_ports (u : UnitAddr) :
    (testLookahead u s).ports = s.ports := by
  simp only [testLookahead]; (repeat' split) <;> simp
@[simp] theorem testLookahead_port (u : UnitAddr) (y : Port) :
    (testLookahead u s).port y = s.port y := by
  simp only [testLookahead]; (repeat' split) <;> simp
@[simp] theorem testLookahead_selectQ (u : UnitAddr) :
    (testLookahead u s).ctb.selectQ = s.ctb.selectQ := by
  simp only [testLookahead]; (repeat' split) <;> simp
@[simp] theorem testLookahead_stopQ (u : UnitAddr) :
    (testLookahead u s).ctb.stopQ = s.ctb.stopQ := by
  simp only [testLookahead]; (repeat' split) <;> simp
@[simp] theorem testLookahead_lnk (u : UnitAddr) :
    (testLookahead u s).lnk = s.lnk := by
  simp only [testLookahead]; (repeat' split) <;> simp
@[simp] theorem testLookahead_queue (u : UnitAddr) (y : Port) :
    (testLookahead u s).queue y = s.queue y := by
  simp only [testLookahead]; (repeat' split) <;> simp
@[simp] theorem testLookahead_seqNo (u : UnitAddr) (y : Port) :
    (testLookahead u s).seqNo y = s.seqNo y := by
  simp only [testLookahead]; (repeat' split) <;> simp
@[simp] theorem testLookahead_heldList (u : UnitAddr) (y : Port) :
    (testLookahead u s).heldList y = s.heldList y := by
  simp only [testLookahead]; (repeat' split) <;> simp
@[simp] theorem testLookahead_deferred (u : UnitAddr) :
    (testLookahead u s).rcm.deferred = s.rcm.deferred := by
  simp only [testLookahead]; (repeat' split) <;> simp
@[simp] theorem testLookahead_page (u : UnitAddr) (y : PageNo) :
    (testLookahead u s).page y = s.page y := by
  simp only [testLookahead]; (repeat' split) <;> simp
@[simp] theorem testLookahead_store (u : UnitAddr) :
    (testLookahead u s).str.store = s.str.store := by
  simp only [testLookahead]; (repeat' split) <;> simp
@[simp] theorem testLookahead_dsc (u : UnitAddr) :
    (testLookahead u s).dsc = s.dsc := by
  simp only [testLookahead]; (repeat' split) <;> simp
@[simp] theorem testLookahead_pending (u : UnitAddr) :
    (testLookahead u s).pending = s.pending := by
  simp only [testLookahead]; (repeat' split) <;> simp

/-! ### firstSegment -/
@[simp] theorem firstSegment_ports (u : UnitAddr) :
    (firstSegment u s).ports = s.ports := by
  simp only [firstSegment]; (repeat' split) <;> simp
@[simp] theorem firstSegment_port (u : UnitAddr) (y : Port) :
    (firstSegment u s).port y = s.port y := by
  simp only [firstSegment]; (repeat' split) <;> simp
@[simp] theorem firstSegment_selectQ (u : UnitAddr) :
    (firstSegment u s).ctb.selectQ = s.ctb.selectQ := by
  simp only [firstSegment]; (repeat' split) <;> simp
@[simp] theorem firstSegment_stopQ (u : UnitAddr) :
    (firstSegment u s).ctb.stopQ = s.ctb.stopQ := by
  simp only [firstSegment]; (repeat' split) <;> simp
@[simp] theorem firstSegment_lnk (u : UnitAddr) :
    (firstSegment u s).lnk = s.lnk := by
  simp only [firstSegment]; (repeat' split) <;> simp
@[simp] theorem firstSegment_queue (u : UnitAddr) (y : Port) :
    (firstSegment u s).queue y = s.queue y := by
  simp only [firstSegment]; (repeat' split) <;> simp
@[simp] theorem firstSegment_seqNo (u : UnitAddr) (y : Port) :
    (firstSegment u s).seqNo y = s.seqNo y := by
  simp only [firstSegment]; (repeat' split) <;> simp
@[simp] theorem firstSegment_heldList (u : UnitAddr) (y : Port) :
    (firstSegment u s).heldList y = s.heldList y := by
  simp only [firstSegment]; (repeat' split) <;> simp
@[simp] theorem firstSegment_deferred (u : UnitAddr) :
    (firstSegment u s).rcm.deferred = s.rcm.deferred := by
  simp only [firstSegment]; (repeat' split) <;> simp
@[simp] theorem firstSegment_store (u : UnitAddr) :
    (firstSegment u s).str.store = s.str.store := by
  simp only [firstSegment]; (repeat' split) <;> simp
@[simp] theorem firstSegment_dsc (u : UnitAddr) :
    (firstSegment u s).dsc = s.dsc := by
  simp only [firstSegment]; (repeat' split) <;> simp
@[simp] theorem firstSegment_pending (u : UnitAddr) :
    (firstSegment u s).pending = s.pending := by
  simp only [firstSegment]; (repeat' split) <;> simp

/-! ### switchTo -/
@[simp] theorem switchTo_ports (u : UnitAddr) (d : Descriptor) (a : Word) :
    (switchTo u d a s).1.ports = s.ports := by
  simp only [switchTo]; (repeat' split) <;> simp
@[simp] theorem switchTo_port (u : UnitAddr) (d : Descriptor) (a : Word) (y : Port) :
    (switchTo u d a s).1.port y = s.port y := by
  simp only [switchTo]; (repeat' split) <;> simp
@[simp] theorem switchTo_selectQ (u : UnitAddr) (d : Descriptor) (a : Word) :
    (switchTo u d a s).1.ctb.selectQ = s.ctb.selectQ := by
  simp only [switchTo]; (repeat' split) <;> simp
@[simp] theorem switchTo_stopQ (u : UnitAddr) (d : Descriptor) (a : Word) :
    (switchTo u d a s).1.ctb.stopQ = s.ctb.stopQ := by
  simp only [switchTo]; (repeat' split) <;> simp
@[simp] theorem switchTo_lnk (u : UnitAddr) (d : Descriptor) (a : Word) :
    (switchTo u d a s).1.lnk = s.lnk := by
  simp only [switchTo]; (repeat' split) <;> simp
@[simp] theorem switchTo_heldList (u : UnitAddr) (d : Descriptor) (a : Word) (y : Port) :
    (switchTo u d a s).1.heldList y = s.heldList y := by
  simp only [switchTo]; (repeat' split) <;> simp
@[simp] theorem switchTo_deferred (u : UnitAddr) (d : Descriptor) (a : Word) :
    (switchTo u d a s).1.rcm.deferred = s.rcm.deferred := by
  simp only [switchTo]; (repeat' split) <;> simp
@[simp] theorem switchTo_store (u : UnitAddr) (d : Descriptor) (a : Word) :
    (switchTo u d a s).1.str.store = s.str.store := by
  simp only [switchTo]; (repeat' split) <;> simp
@[simp] theorem switchTo_dsc (u : UnitAddr) (d : Descriptor) (a : Word) :
    (switchTo u d a s).1.dsc = s.dsc := by
  simp only [switchTo]; (repeat' split) <;> simp
@[simp] theorem switchTo_pending (u : UnitAddr) (d : Descriptor) (a : Word) :
    (switchTo u d a s).1.pending = s.pending := by
  simp only [switchTo]; (repeat' split) <;> simp

/-! ### placeSome -/
@[simp] theorem placeSome_ports (u : UnitAddr) (g : Segment) (bs : List Byte) :
    (placeSome u g bs s).ports = s.ports := by
  simp only [placeSome]; (repeat' split) <;> simp
@[simp] theorem placeSome_port (u : UnitAddr) (g : Segment) (bs : List Byte) (y : Port) :
    (placeSome u g bs s).port y = s.port y := by
  simp only [placeSome]; (repeat' split) <;> simp
@[simp] theorem placeSome_selectQ (u : UnitAddr) (g : Segment) (bs : List Byte) :
    (placeSome u g bs s).ctb.selectQ = s.ctb.selectQ := by
  simp only [placeSome]; (repeat' split) <;> simp
@[simp] theorem placeSome_stopQ (u : UnitAddr) (g : Segment) (bs : List Byte) :
    (placeSome u g bs s).ctb.stopQ = s.ctb.stopQ := by
  simp only [placeSome]; (repeat' split) <;> simp
@[simp] theorem placeSome_lnk (u : UnitAddr) (g : Segment) (bs : List Byte) :
    (placeSome u g bs s).lnk = s.lnk := by
  simp only [placeSome]; (repeat' split) <;> simp
@[simp] theorem placeSome_queue (u : UnitAddr) (g : Segment) (bs : List Byte) (y : Port) :
    (placeSome u g bs s).queue y = s.queue y := by
  simp only [placeSome]; (repeat' split) <;> simp
@[simp] theorem placeSome_seqNo (u : UnitAddr) (g : Segment) (bs : List Byte) (y : Port) :
    (placeSome u g bs s).seqNo y = s.seqNo y := by
  simp only [placeSome]; (repeat' split) <;> simp
@[simp] theorem placeSome_heldList (u : UnitAddr) (g : Segment) (bs : List Byte) (y : Port) :
    (placeSome u g bs s).heldList y = s.heldList y := by
  simp only [placeSome]; (repeat' split) <;> simp
@[simp] theorem placeSome_deferred (u : UnitAddr) (g : Segment) (bs : List Byte) :
    (placeSome u g bs s).rcm.deferred = s.rcm.deferred := by
  simp only [placeSome]; (repeat' split) <;> simp
@[simp] theorem placeSome_page (u : UnitAddr) (g : Segment) (bs : List Byte) (y : PageNo) :
    (placeSome u g bs s).page y = s.page y := by
  simp only [placeSome]; (repeat' split) <;> simp
@[simp] theorem placeSome_dsc (u : UnitAddr) (g : Segment) (bs : List Byte) :
    (placeSome u g bs s).dsc = s.dsc := by
  simp only [placeSome]; (repeat' split) <;> simp
@[simp] theorem placeSome_pending (u : UnitAddr) (g : Segment) (bs : List Byte) :
    (placeSome u g bs s).pending = s.pending := by
  simp only [placeSome]; (repeat' split) <;> simp

/-! ### overrun -/
@[simp] theorem overrun_ports (u : UnitAddr) :
    (overrun u s).ports = s.ports := by
  simp only [overrun]; (repeat' split) <;> simp
@[simp] theorem overrun_port (u : UnitAddr) (y : Port) :
    (overrun u s).port y = s.port y := by
  simp only [overrun]; (repeat' split) <;> simp
@[simp] theorem overrun_selectQ (u : UnitAddr) :
    (overrun u s).ctb.selectQ = s.ctb.selectQ := by
  simp only [overrun]; (repeat' split) <;> simp
@[simp] theorem overrun_stopQ (u : UnitAddr) :
    (overrun u s).ctb.stopQ = s.ctb.stopQ := by
  simp only [overrun]; (repeat' split) <;> simp
@[simp] theorem overrun_lnk (u : UnitAddr) :
    (overrun u s).lnk = s.lnk := by
  simp only [overrun]; (repeat' split) <;> simp
@[simp] theorem overrun_queue (u : UnitAddr) (y : Port) :
    (overrun u s).queue y = s.queue y := by
  simp only [overrun]; (repeat' split) <;> simp
@[simp] theorem overrun_seqNo (u : UnitAddr) (y : Port) :
    (overrun u s).seqNo y = s.seqNo y := by
  simp only [overrun]; (repeat' split) <;> simp
@[simp] theorem overrun_heldList (u : UnitAddr) (y : Port) :
    (overrun u s).heldList y = s.heldList y := by
  simp only [overrun]; (repeat' split) <;> simp
@[simp] theorem overrun_deferred (u : UnitAddr) :
    (overrun u s).rcm.deferred = s.rcm.deferred := by
  simp only [overrun]; (repeat' split) <;> simp
@[simp] theorem overrun_page (u : UnitAddr) (y : PageNo) :
    (overrun u s).page y = s.page y := by
  simp only [overrun]; (repeat' split) <;> simp
@[simp] theorem overrun_store (u : UnitAddr) :
    (overrun u s).str.store = s.str.store := by
  simp only [overrun]; (repeat' split) <;> simp
@[simp] theorem overrun_dsc (u : UnitAddr) :
    (overrun u s).dsc = s.dsc := by
  simp only [overrun]; (repeat' split) <;> simp
@[simp] theorem overrun_pending (u : UnitAddr) :
    (overrun u s).pending = s.pending := by
  simp only [overrun]; (repeat' split) <;> simp

/-! ### ensureSegment -/
@[simp] theorem ensureSegment_ports (u : UnitAddr) :
    (ensureSegment u s).ports = s.ports := by
  simp only [ensureSegment]; (repeat' split) <;> simp
@[simp] theorem ensureSegment_port (u : UnitAddr) (y : Port) :
    (ensureSegment u s).port y = s.port y := by
  simp only [ensureSegment]; (repeat' split) <;> simp
@[simp] theorem ensureSegment_selectQ (u : UnitAddr) :
    (ensureSegment u s).ctb.selectQ = s.ctb.selectQ := by
  simp only [ensureSegment]; (repeat' split) <;> simp
@[simp] theorem ensureSegment_stopQ (u : UnitAddr) :
    (ensureSegment u s).ctb.stopQ = s.ctb.stopQ := by
  simp only [ensureSegment]; (repeat' split) <;> simp
@[simp] theorem ensureSegment_lnk (u : UnitAddr) :
    (ensureSegment u s).lnk = s.lnk := by
  simp only [ensureSegment]; (repeat' split) <;> simp
@[simp] theorem ensureSegment_queue (u : UnitAddr) (y : Port) :
    (ensureSegment u s).queue y = s.queue y := by
  simp only [ensureSegment]; (repeat' split) <;> simp
@[simp] theorem ensureSegment_seqNo (u : UnitAddr) (y : Port) :
    (ensureSegment u s).seqNo y = s.seqNo y := by
  simp only [ensureSegment]; (repeat' split) <;> simp
@[simp] theorem ensureSegment_heldList (u : UnitAddr) (y : Port) :
    (ensureSegment u s).heldList y = s.heldList y := by
  simp only [ensureSegment]; (repeat' split) <;> simp
@[simp] theorem ensureSegment_deferred (u : UnitAddr) :
    (ensureSegment u s).rcm.deferred = s.rcm.deferred := by
  simp only [ensureSegment]; (repeat' split) <;> simp
@[simp] theorem ensureSegment_store (u : UnitAddr) :
    (ensureSegment u s).str.store = s.str.store := by
  simp only [ensureSegment]; (repeat' split) <;> simp
@[simp] theorem ensureSegment_dsc (u : UnitAddr) :
    (ensureSegment u s).dsc = s.dsc := by
  simp only [ensureSegment]; (repeat' split) <;> simp
@[simp] theorem ensureSegment_pending (u : UnitAddr) :
    (ensureSegment u s).pending = s.pending := by
  simp only [ensureSegment]; (repeat' split) <;> simp

/-! ### fetchOutput -/
@[simp] theorem fetchOutput_ports (u : UnitAddr) :
    (fetchOutput u s).1.ports = s.ports := by
  simp only [fetchOutput]; (repeat' split) <;> simp
@[simp] theorem fetchOutput_port (u : UnitAddr) (y : Port) :
    (fetchOutput u s).1.port y = s.port y := by
  simp only [fetchOutput]; (repeat' split) <;> simp
@[simp] theorem fetchOutput_selectQ (u : UnitAddr) :
    (fetchOutput u s).1.ctb.selectQ = s.ctb.selectQ := by
  simp only [fetchOutput]; (repeat' split) <;> simp
@[simp] theorem fetchOutput_stopQ (u : UnitAddr) :
    (fetchOutput u s).1.ctb.stopQ = s.ctb.stopQ := by
  simp only [fetchOutput]; (repeat' split) <;> simp
@[simp] theorem fetchOutput_lnk (u : UnitAddr) :
    (fetchOutput u s).1.lnk = s.lnk := by
  simp only [fetchOutput]; (repeat' split) <;> simp
@[simp] theorem fetchOutput_heldList (u : UnitAddr) (y : Port) :
    (fetchOutput u s).1.heldList y = s.heldList y := by
  simp only [fetchOutput]; (repeat' split) <;> simp
@[simp] theorem fetchOutput_deferred (u : UnitAddr) :
    (fetchOutput u s).1.rcm.deferred = s.rcm.deferred := by
  simp only [fetchOutput]; (repeat' split) <;> simp
@[simp] theorem fetchOutput_store (u : UnitAddr) :
    (fetchOutput u s).1.str.store = s.str.store := by
  simp only [fetchOutput]; (repeat' split) <;> simp
@[simp] theorem fetchOutput_dsc (u : UnitAddr) :
    (fetchOutput u s).1.dsc = s.dsc := by
  simp only [fetchOutput]; (repeat' split) <;> simp
@[simp] theorem fetchOutput_pending (u : UnitAddr) :
    (fetchOutput u s).1.pending = s.pending := by
  simp only [fetchOutput]; (repeat' split) <;> simp

/-! ### takeOutData -/
@[simp] theorem takeOutData_ports (u : UnitAddr) :
    (takeOutData u s).1.ports = s.ports := by
  simp only [takeOutData]; (repeat' split) <;> simp
@[simp] theorem takeOutData_port (u : UnitAddr) (y : Port) :
    (takeOutData u s).1.port y = s.port y := by
  simp only [takeOutData]; (repeat' split) <;> simp
@[simp] theorem takeOutData_selectQ (u : UnitAddr) :
    (takeOutData u s).1.ctb.selectQ = s.ctb.selectQ := by
  simp only [takeOutData]; (repeat' split) <;> simp
@[simp] theorem takeOutData_stopQ (u : UnitAddr) :
    (takeOutData u s).1.ctb.stopQ = s.ctb.stopQ := by
  simp only [takeOutData]; (repeat' split) <;> simp
@[simp] theorem takeOutData_lnk (u : UnitAddr) :
    (takeOutData u s).1.lnk = s.lnk := by
  simp only [takeOutData]; (repeat' split) <;> simp
@[simp] theorem takeOutData_heldList (u : UnitAddr) (y : Port) :
    (takeOutData u s).1.heldList y = s.heldList y := by
  simp only [takeOutData]; (repeat' split) <;> simp
@[simp] theorem takeOutData_deferred (u : UnitAddr) :
    (takeOutData u s).1.rcm.deferred = s.rcm.deferred := by
  simp only [takeOutData]; (repeat' split) <;> simp
@[simp] theorem takeOutData_store (u : UnitAddr) :
    (takeOutData u s).1.str.store = s.str.store := by
  simp only [takeOutData]; (repeat' split) <;> simp
@[simp] theorem takeOutData_dsc (u : UnitAddr) :
    (takeOutData u s).1.dsc = s.dsc := by
  simp only [takeOutData]; (repeat' split) <;> simp
@[simp] theorem takeOutData_pending (u : UnitAddr) :
    (takeOutData u s).1.pending = s.pending := by
  simp only [takeOutData]; (repeat' split) <;> simp

/-! ### advanceSegment -/
@[simp] theorem advanceSegment_ports (u : UnitAddr) (n : Nat) :
    (advanceSegment u n s).ports = s.ports := by
  simp only [advanceSegment]; (repeat' split) <;> simp
@[simp] theorem advanceSegment_port (u : UnitAddr) (n : Nat) (y : Port) :
    (advanceSegment u n s).port y = s.port y := by
  simp only [advanceSegment]; (repeat' split) <;> simp
@[simp] theorem advanceSegment_selectQ (u : UnitAddr) (n : Nat) :
    (advanceSegment u n s).ctb.selectQ = s.ctb.selectQ := by
  simp only [advanceSegment]; (repeat' split) <;> simp
@[simp] theorem advanceSegment_stopQ (u : UnitAddr) (n : Nat) :
    (advanceSegment u n s).ctb.stopQ = s.ctb.stopQ := by
  simp only [advanceSegment]; (repeat' split) <;> simp
@[simp] theorem advanceSegment_lnk (u : UnitAddr) (n : Nat) :
    (advanceSegment u n s).lnk = s.lnk := by
  simp only [advanceSegment]; (repeat' split) <;> simp
@[simp] theorem advanceSegment_queue (u : UnitAddr) (n : Nat) (y : Port) :
    (advanceSegment u n s).queue y = s.queue y := by
  simp only [advanceSegment]; (repeat' split) <;> simp
@[simp] theorem advanceSegment_seqNo (u : UnitAddr) (n : Nat) (y : Port) :
    (advanceSegment u n s).seqNo y = s.seqNo y := by
  simp only [advanceSegment]; (repeat' split) <;> simp
@[simp] theorem advanceSegment_heldList (u : UnitAddr) (n : Nat) (y : Port) :
    (advanceSegment u n s).heldList y = s.heldList y := by
  simp only [advanceSegment]; (repeat' split) <;> simp
@[simp] theorem advanceSegment_deferred (u : UnitAddr) (n : Nat) :
    (advanceSegment u n s).rcm.deferred = s.rcm.deferred := by
  simp only [advanceSegment]; (repeat' split) <;> simp
@[simp] theorem advanceSegment_page (u : UnitAddr) (n : Nat) (y : PageNo) :
    (advanceSegment u n s).page y = s.page y := by
  simp only [advanceSegment]; (repeat' split) <;> simp
@[simp] theorem advanceSegment_store (u : UnitAddr) (n : Nat) :
    (advanceSegment u n s).str.store = s.str.store := by
  simp only [advanceSegment]; (repeat' split) <;> simp
@[simp] theorem advanceSegment_dsc (u : UnitAddr) (n : Nat) :
    (advanceSegment u n s).dsc = s.dsc := by
  simp only [advanceSegment]; (repeat' split) <;> simp
@[simp] theorem advanceSegment_pending (u : UnitAddr) (n : Nat) :
    (advanceSegment u n s).pending = s.pending := by
  simp only [advanceSegment]; (repeat' split) <;> simp

/-! ### leaveQueues -/
@[simp] theorem leaveQueues_rcm (u : UnitAddr) : (leaveQueues u s).rcm = s.rcm := by simp [leaveQueues]
@[simp] theorem leaveQueues_ports (u : UnitAddr) :
    (leaveQueues u s).ports = s.ports := by
  simp only [leaveQueues]; (repeat' split) <;> simp
@[simp] theorem leaveQueues_port (u : UnitAddr) (y : Port) :
    (leaveQueues u s).port y = s.port y := by
  simp only [leaveQueues]; (repeat' split) <;> simp
@[simp] theorem leaveQueues_lnk (u : UnitAddr) :
    (leaveQueues u s).lnk = s.lnk := by
  simp only [leaveQueues]; (repeat' split) <;> simp
@[simp] theorem leaveQueues_queue (u : UnitAddr) (y : Port) :
    (leaveQueues u s).queue y = s.queue y := by
  simp only [leaveQueues]; (repeat' split) <;> simp
@[simp] theorem leaveQueues_seqNo (u : UnitAddr) (y : Port) :
    (leaveQueues u s).seqNo y = s.seqNo y := by
  simp only [leaveQueues]; (repeat' split) <;> simp
@[simp] theorem leaveQueues_heldList (u : UnitAddr) (y : Port) :
    (leaveQueues u s).heldList y = s.heldList y := by
  simp only [leaveQueues]; (repeat' split) <;> simp
@[simp] theorem leaveQueues_deferred (u : UnitAddr) :
    (leaveQueues u s).rcm.deferred = s.rcm.deferred := by
  simp only [leaveQueues]; (repeat' split) <;> simp
@[simp] theorem leaveQueues_page (u : UnitAddr) (y : PageNo) :
    (leaveQueues u s).page y = s.page y := by
  simp only [leaveQueues]; (repeat' split) <;> simp
@[simp] theorem leaveQueues_store (u : UnitAddr) :
    (leaveQueues u s).str.store = s.str.store := by
  simp only [leaveQueues]; (repeat' split) <;> simp
@[simp] theorem leaveQueues_dsc (u : UnitAddr) :
    (leaveQueues u s).dsc = s.dsc := by
  simp only [leaveQueues]; (repeat' split) <;> simp
@[simp] theorem leaveQueues_pending (u : UnitAddr) :
    (leaveQueues u s).pending = s.pending := by
  simp only [leaveQueues]; (repeat' split) <;> simp

/-! ### endOrder -/
@[simp] theorem endOrder_ports (u : UnitAddr) (n : Nat) :
    (endOrder u n s).ports = s.ports := by
  simp only [endOrder]; (repeat' split) <;> simp
@[simp] theorem endOrder_port (u : UnitAddr) (n : Nat) (y : Port) :
    (endOrder u n s).port y = s.port y := by
  simp only [endOrder]; (repeat' split) <;> simp
@[simp] theorem endOrder_lnk (u : UnitAddr) (n : Nat) :
    (endOrder u n s).lnk = s.lnk := by
  simp only [endOrder]; (repeat' split) <;> simp
@[simp] theorem endOrder_deferred (u : UnitAddr) (n : Nat) :
    (endOrder u n s).rcm.deferred = s.rcm.deferred := by
  simp only [endOrder]; (repeat' split) <;> simp
@[simp] theorem endOrder_store (u : UnitAddr) (n : Nat) :
    (endOrder u n s).str.store = s.str.store := by
  simp only [endOrder]; (repeat' split) <;> simp
@[simp] theorem endOrder_dsc (u : UnitAddr) (n : Nat) :
    (endOrder u n s).dsc = s.dsc := by
  simp only [endOrder]; (repeat' split) <;> simp
@[simp] theorem endOrder_pending (u : UnitAddr) (n : Nat) :
    (endOrder u n s).pending = s.pending := by
  simp only [endOrder]; (repeat' split) <;> simp

/-! ### failOrder -/
@[simp] theorem failOrder_ports (u : UnitAddr) (x : Cond) :
    (failOrder u x s).ports = s.ports := by
  simp only [failOrder]; (repeat' split) <;> simp
@[simp] theorem failOrder_port (u : UnitAddr) (x : Cond) (y : Port) :
    (failOrder u x s).port y = s.port y := by
  simp only [failOrder]; (repeat' split) <;> simp
@[simp] theorem failOrder_lnk (u : UnitAddr) (x : Cond) :
    (failOrder u x s).lnk = s.lnk := by
  simp only [failOrder]; (repeat' split) <;> simp
@[simp] theorem failOrder_deferred (u : UnitAddr) (x : Cond) :
    (failOrder u x s).rcm.deferred = s.rcm.deferred := by
  simp only [failOrder]; (repeat' split) <;> simp
@[simp] theorem failOrder_store (u : UnitAddr) (x : Cond) :
    (failOrder u x s).str.store = s.str.store := by
  simp only [failOrder]; (repeat' split) <;> simp
@[simp] theorem failOrder_dsc (u : UnitAddr) (x : Cond) :
    (failOrder u x s).dsc = s.dsc := by
  simp only [failOrder]; (repeat' split) <;> simp
@[simp] theorem failOrder_pending (u : UnitAddr) (x : Cond) :
    (failOrder u x s).pending = s.pending := by
  simp only [failOrder]; (repeat' split) <;> simp

/-! ### continueChain -/
@[simp] theorem continueChain_ports (u : UnitAddr) (d : Descriptor) (a : Word) :
    (continueChain u d a s).ports = s.ports := by
  simp only [continueChain]; (repeat' split) <;> simp
@[simp] theorem continueChain_port (u : UnitAddr) (d : Descriptor) (a : Word) (y : Port) :
    (continueChain u d a s).port y = s.port y := by
  simp only [continueChain]; (repeat' split) <;> simp
@[simp] theorem continueChain_stopQ (u : UnitAddr) (d : Descriptor) (a : Word) :
    (continueChain u d a s).ctb.stopQ = s.ctb.stopQ := by
  simp only [continueChain]; (repeat' split) <;> simp
@[simp] theorem continueChain_lnk (u : UnitAddr) (d : Descriptor) (a : Word) :
    (continueChain u d a s).lnk = s.lnk := by
  simp only [continueChain]; (repeat' split) <;> simp
@[simp] theorem continueChain_heldList (u : UnitAddr) (d : Descriptor) (a : Word) (y : Port) :
    (continueChain u d a s).heldList y = s.heldList y := by
  simp only [continueChain]; (repeat' split) <;> simp
@[simp] theorem continueChain_deferred (u : UnitAddr) (d : Descriptor) (a : Word) :
    (continueChain u d a s).rcm.deferred = s.rcm.deferred := by
  simp only [continueChain]; (repeat' split) <;> simp
@[simp] theorem continueChain_store (u : UnitAddr) (d : Descriptor) (a : Word) :
    (continueChain u d a s).str.store = s.str.store := by
  simp only [continueChain]; (repeat' split) <;> simp
@[simp] theorem continueChain_dsc (u : UnitAddr) (d : Descriptor) (a : Word) :
    (continueChain u d a s).dsc = s.dsc := by
  simp only [continueChain]; (repeat' split) <;> simp
@[simp] theorem continueChain_pending (u : UnitAddr) (d : Descriptor) (a : Word) :
    (continueChain u d a s).pending = s.pending := by
  simp only [continueChain]; (repeat' split) <;> simp

/-! ### takeEnding -/
@[simp] theorem takeEnding_ports (u : UnitAddr) (st : UStatus) (b : Bool) :
    (takeEnding u st b s).ports = s.ports := by
  simp only [takeEnding]; (repeat' split) <;> simp
@[simp] theorem takeEnding_port (u : UnitAddr) (st : UStatus) (b : Bool) (y : Port) :
    (takeEnding u st b s).port y = s.port y := by
  simp only [takeEnding]; (repeat' split) <;> simp
@[simp] theorem takeEnding_lnk (u : UnitAddr) (st : UStatus) (b : Bool) :
    (takeEnding u st b s).lnk = s.lnk := by
  simp only [takeEnding]; (repeat' split) <;> simp
@[simp] theorem takeEnding_deferred (u : UnitAddr) (st : UStatus) (b : Bool) :
    (takeEnding u st b s).rcm.deferred = s.rcm.deferred := by
  simp only [takeEnding]; (repeat' split) <;> simp
@[simp] theorem takeEnding_store (u : UnitAddr) (st : UStatus) (b : Bool) :
    (takeEnding u st b s).str.store = s.str.store := by
  simp only [takeEnding]; (repeat' split) <;> simp
@[simp] theorem takeEnding_dsc (u : UnitAddr) (st : UStatus) (b : Bool) :
    (takeEnding u st b s).dsc = s.dsc := by
  simp only [takeEnding]; (repeat' split) <;> simp
@[simp] theorem takeEnding_pending (u : UnitAddr) (st : UStatus) (b : Bool) :
    (takeEnding u st b s).pending = s.pending := by
  simp only [takeEnding]; (repeat' split) <;> simp

/-! ### joinStop -/
@[simp] theorem joinStop_ports (u : UnitAddr) :
    (joinStop u s).ports = s.ports := by
  simp only [joinStop]; (repeat' split) <;> simp
@[simp] theorem joinStop_port (u : UnitAddr) (y : Port) :
    (joinStop u s).port y = s.port y := by
  simp only [joinStop]; (repeat' split) <;> simp
@[simp] theorem joinStop_selectQ (u : UnitAddr) :
    (joinStop u s).ctb.selectQ = s.ctb.selectQ := by
  simp only [joinStop]; (repeat' split) <;> simp
@[simp] theorem joinStop_lnk (u : UnitAddr) :
    (joinStop u s).lnk = s.lnk := by
  simp only [joinStop]; (repeat' split) <;> simp
@[simp] theorem joinStop_queue (u : UnitAddr) (y : Port) :
    (joinStop u s).queue y = s.queue y := by
  simp only [joinStop]; (repeat' split) <;> simp
@[simp] theorem joinStop_seqNo (u : UnitAddr) (y : Port) :
    (joinStop u s).seqNo y = s.seqNo y := by
  simp only [joinStop]; (repeat' split) <;> simp
@[simp] theorem joinStop_heldList (u : UnitAddr) (y : Port) :
    (joinStop u s).heldList y = s.heldList y := by
  simp only [joinStop]; (repeat' split) <;> simp
@[simp] theorem joinStop_deferred (u : UnitAddr) :
    (joinStop u s).rcm.deferred = s.rcm.deferred := by
  simp only [joinStop]; (repeat' split) <;> simp
@[simp] theorem joinStop_page (u : UnitAddr) (y : PageNo) :
    (joinStop u s).page y = s.page y := by
  simp only [joinStop]; (repeat' split) <;> simp
@[simp] theorem joinStop_store (u : UnitAddr) :
    (joinStop u s).str.store = s.str.store := by
  simp only [joinStop]; (repeat' split) <;> simp
@[simp] theorem joinStop_dsc (u : UnitAddr) :
    (joinStop u s).dsc = s.dsc := by
  simp only [joinStop]; (repeat' split) <;> simp
@[simp] theorem joinStop_pending (u : UnitAddr) :
    (joinStop u s).pending = s.pending := by
  simp only [joinStop]; (repeat' split) <;> simp

/-! ### enterDisconnected -/
@[simp] theorem enterDisconnected_ports (u : UnitAddr) :
    (enterDisconnected u s).ports = s.ports := by
  simp only [enterDisconnected]; (repeat' split) <;> simp
@[simp] theorem enterDisconnected_port (u : UnitAddr) (y : Port) :
    (enterDisconnected u s).port y = s.port y := by
  simp only [enterDisconnected]; (repeat' split) <;> simp
@[simp] theorem enterDisconnected_selectQ (u : UnitAddr) :
    (enterDisconnected u s).ctb.selectQ = s.ctb.selectQ := by
  simp only [enterDisconnected]; (repeat' split) <;> simp
@[simp] theorem enterDisconnected_lnk (u : UnitAddr) :
    (enterDisconnected u s).lnk = s.lnk := by
  simp only [enterDisconnected]; (repeat' split) <;> simp
@[simp] theorem enterDisconnected_queue (u : UnitAddr) (y : Port) :
    (enterDisconnected u s).queue y = s.queue y := by
  simp only [enterDisconnected]; (repeat' split) <;> simp
@[simp] theorem enterDisconnected_seqNo (u : UnitAddr) (y : Port) :
    (enterDisconnected u s).seqNo y = s.seqNo y := by
  simp only [enterDisconnected]; (repeat' split) <;> simp
@[simp] theorem enterDisconnected_heldList (u : UnitAddr) (y : Port) :
    (enterDisconnected u s).heldList y = s.heldList y := by
  simp only [enterDisconnected]; (repeat' split) <;> simp
@[simp] theorem enterDisconnected_deferred (u : UnitAddr) :
    (enterDisconnected u s).rcm.deferred = s.rcm.deferred := by
  simp only [enterDisconnected]; (repeat' split) <;> simp
@[simp] theorem enterDisconnected_page (u : UnitAddr) (y : PageNo) :
    (enterDisconnected u s).page y = s.page y := by
  simp only [enterDisconnected]; (repeat' split) <;> simp
@[simp] theorem enterDisconnected_store (u : UnitAddr) :
    (enterDisconnected u s).str.store = s.str.store := by
  simp only [enterDisconnected]; (repeat' split) <;> simp
@[simp] theorem enterDisconnected_dsc (u : UnitAddr) :
    (enterDisconnected u s).dsc = s.dsc := by
  simp only [enterDisconnected]; (repeat' split) <;> simp
@[simp] theorem enterDisconnected_pending (u : UnitAddr) :
    (enterDisconnected u s).pending = s.pending := by
  simp only [enterDisconnected]; (repeat' split) <;> simp

/-! ### selectionAccepted -/
@[simp] theorem selectionAccepted_ports (u : UnitAddr) :
    (selectionAccepted u s).ports = s.ports := by
  simp only [selectionAccepted]; (repeat' split) <;> simp
@[simp] theorem selectionAccepted_port (u : UnitAddr) (y : Port) :
    (selectionAccepted u s).port y = s.port y := by
  simp only [selectionAccepted]; (repeat' split) <;> simp
@[simp] theorem selectionAccepted_selectQ (u : UnitAddr) :
    (selectionAccepted u s).ctb.selectQ = s.ctb.selectQ := by
  simp only [selectionAccepted]; (repeat' split) <;> simp
@[simp] theorem selectionAccepted_lnk (u : UnitAddr) :
    (selectionAccepted u s).lnk = s.lnk := by
  simp only [selectionAccepted]; (repeat' split) <;> simp
@[simp] theorem selectionAccepted_queue (u : UnitAddr) (y : Port) :
    (selectionAccepted u s).queue y = s.queue y := by
  simp only [selectionAccepted]; (repeat' split) <;> simp
@[simp] theorem selectionAccepted_seqNo (u : UnitAddr) (y : Port) :
    (selectionAccepted u s).seqNo y = s.seqNo y := by
  simp only [selectionAccepted]; (repeat' split) <;> simp
@[simp] theorem selectionAccepted_heldList (u : UnitAddr) (y : Port) :
    (selectionAccepted u s).heldList y = s.heldList y := by
  simp only [selectionAccepted]; (repeat' split) <;> simp
@[simp] theorem selectionAccepted_deferred (u : UnitAddr) :
    (selectionAccepted u s).rcm.deferred = s.rcm.deferred := by
  simp only [selectionAccepted]; (repeat' split) <;> simp
@[simp] theorem selectionAccepted_store (u : UnitAddr) :
    (selectionAccepted u s).str.store = s.str.store := by
  simp only [selectionAccepted]; (repeat' split) <;> simp
@[simp] theorem selectionAccepted_dsc (u : UnitAddr) :
    (selectionAccepted u s).dsc = s.dsc := by
  simp only [selectionAccepted]; (repeat' split) <;> simp
@[simp] theorem selectionAccepted_pending (u : UnitAddr) :
    (selectionAccepted u s).pending = s.pending := by
  simp only [selectionAccepted]; (repeat' split) <;> simp

/-! ### selectionRefused -/
@[simp] theorem selectionRefused_ports (u : UnitAddr) (st : UStatus) :
    (selectionRefused u st s).ports = s.ports := by
  simp only [selectionRefused]; (repeat' split) <;> simp
@[simp] theorem selectionRefused_port (u : UnitAddr) (st : UStatus) (y : Port) :
    (selectionRefused u st s).port y = s.port y := by
  simp only [selectionRefused]; (repeat' split) <;> simp
@[simp] theorem selectionRefused_lnk (u : UnitAddr) (st : UStatus) :
    (selectionRefused u st s).lnk = s.lnk := by
  simp only [selectionRefused]; (repeat' split) <;> simp
@[simp] theorem selectionRefused_deferred (u : UnitAddr) (st : UStatus) :
    (selectionRefused u st s).rcm.deferred = s.rcm.deferred := by
  simp only [selectionRefused]; (repeat' split) <;> simp
@[simp] theorem selectionRefused_store (u : UnitAddr) (st : UStatus) :
    (selectionRefused u st s).str.store = s.str.store := by
  simp only [selectionRefused]; (repeat' split) <;> simp
@[simp] theorem selectionRefused_dsc (u : UnitAddr) (st : UStatus) :
    (selectionRefused u st s).dsc = s.dsc := by
  simp only [selectionRefused]; (repeat' split) <;> simp
@[simp] theorem selectionRefused_pending (u : UnitAddr) (st : UStatus) :
    (selectionRefused u st s).pending = s.pending := by
  simp only [selectionRefused]; (repeat' split) <;> simp

/-! ### haltSelectionAnswered -/
@[simp] theorem haltSelectionAnswered_ports (u : UnitAddr) (st : UStatus) :
    (haltSelectionAnswered u st s).ports = s.ports := by
  simp only [haltSelectionAnswered]; (repeat' split) <;> simp
@[simp] theorem haltSelectionAnswered_port (u : UnitAddr) (st : UStatus) (y : Port) :
    (haltSelectionAnswered u st s).port y = s.port y := by
  simp only [haltSelectionAnswered]; (repeat' split) <;> simp
@[simp] theorem haltSelectionAnswered_lnk (u : UnitAddr) (st : UStatus) :
    (haltSelectionAnswered u st s).lnk = s.lnk := by
  simp only [haltSelectionAnswered]; (repeat' split) <;> simp
@[simp] theorem haltSelectionAnswered_deferred (u : UnitAddr) (st : UStatus) :
    (haltSelectionAnswered u st s).rcm.deferred = s.rcm.deferred := by
  simp only [haltSelectionAnswered]; (repeat' split) <;> simp
@[simp] theorem haltSelectionAnswered_store (u : UnitAddr) (st : UStatus) :
    (haltSelectionAnswered u st s).str.store = s.str.store := by
  simp only [haltSelectionAnswered]; (repeat' split) <;> simp
@[simp] theorem haltSelectionAnswered_dsc (u : UnitAddr) (st : UStatus) :
    (haltSelectionAnswered u st s).dsc = s.dsc := by
  simp only [haltSelectionAnswered]; (repeat' split) <;> simp
@[simp] theorem haltSelectionAnswered_pending (u : UnitAddr) (st : UStatus) :
    (haltSelectionAnswered u st s).pending = s.pending := by
  simp only [haltSelectionAnswered]; (repeat' split) <;> simp

/-! ### connect -/
@[simp] theorem connect_ports (u : UnitAddr) :
    (connect u s).ports = s.ports := by
  simp only [connect]; (repeat' split) <;> simp
@[simp] theorem connect_port (u : UnitAddr) (y : Port) :
    (connect u s).port y = s.port y := by
  simp only [connect]; (repeat' split) <;> simp
@[simp] theorem connect_selectQ (u : UnitAddr) :
    (connect u s).ctb.selectQ = s.ctb.selectQ := by
  simp only [connect]; (repeat' split) <;> simp
@[simp] theorem connect_lnk (u : UnitAddr) :
    (connect u s).lnk = s.lnk := by
  simp only [connect]; (repeat' split) <;> simp
@[simp] theorem connect_queue (u : UnitAddr) (y : Port) :
    (connect u s).queue y = s.queue y := by
  simp only [connect]; (repeat' split) <;> simp
@[simp] theorem connect_seqNo (u : UnitAddr) (y : Port) :
    (connect u s).seqNo y = s.seqNo y := by
  simp only [connect]; (repeat' split) <;> simp
@[simp] theorem connect_heldList (u : UnitAddr) (y : Port) :
    (connect u s).heldList y = s.heldList y := by
  simp only [connect]; (repeat' split) <;> simp
@[simp] theorem connect_deferred (u : UnitAddr) :
    (connect u s).rcm.deferred = s.rcm.deferred := by
  simp only [connect]; (repeat' split) <;> simp
@[simp] theorem connect_page (u : UnitAddr) (y : PageNo) :
    (connect u s).page y = s.page y := by
  simp only [connect]; (repeat' split) <;> simp
@[simp] theorem connect_store (u : UnitAddr) :
    (connect u s).str.store = s.str.store := by
  simp only [connect]; (repeat' split) <;> simp
@[simp] theorem connect_dsc (u : UnitAddr) :
    (connect u s).dsc = s.dsc := by
  simp only [connect]; (repeat' split) <;> simp
@[simp] theorem connect_pending (u : UnitAddr) :
    (connect u s).pending = s.pending := by
  simp only [connect]; (repeat' split) <;> simp

/-! ### exchangeOver -/
@[simp] theorem exchangeOver_ports (u : UnitAddr) :
    (exchangeOver u s).ports = s.ports := by
  simp only [exchangeOver]; (repeat' split) <;> simp
@[simp] theorem exchangeOver_port (u : UnitAddr) (y : Port) :
    (exchangeOver u s).port y = s.port y := by
  simp only [exchangeOver]; (repeat' split) <;> simp
@[simp] theorem exchangeOver_selectQ (u : UnitAddr) :
    (exchangeOver u s).ctb.selectQ = s.ctb.selectQ := by
  simp only [exchangeOver]; (repeat' split) <;> simp
@[simp] theorem exchangeOver_lnk (u : UnitAddr) :
    (exchangeOver u s).lnk = s.lnk := by
  simp only [exchangeOver]; (repeat' split) <;> simp
@[simp] theorem exchangeOver_queue (u : UnitAddr) (y : Port) :
    (exchangeOver u s).queue y = s.queue y := by
  simp only [exchangeOver]; (repeat' split) <;> simp
@[simp] theorem exchangeOver_seqNo (u : UnitAddr) (y : Port) :
    (exchangeOver u s).seqNo y = s.seqNo y := by
  simp only [exchangeOver]; (repeat' split) <;> simp
@[simp] theorem exchangeOver_heldList (u : UnitAddr) (y : Port) :
    (exchangeOver u s).heldList y = s.heldList y := by
  simp only [exchangeOver]; (repeat' split) <;> simp
@[simp] theorem exchangeOver_deferred (u : UnitAddr) :
    (exchangeOver u s).rcm.deferred = s.rcm.deferred := by
  simp only [exchangeOver]; (repeat' split) <;> simp
@[simp] theorem exchangeOver_page (u : UnitAddr) (y : PageNo) :
    (exchangeOver u s).page y = s.page y := by
  simp only [exchangeOver]; (repeat' split) <;> simp
@[simp] theorem exchangeOver_store (u : UnitAddr) :
    (exchangeOver u s).str.store = s.str.store := by
  simp only [exchangeOver]; (repeat' split) <;> simp
@[simp] theorem exchangeOver_dsc (u : UnitAddr) :
    (exchangeOver u s).dsc = s.dsc := by
  simp only [exchangeOver]; (repeat' split) <;> simp
@[simp] theorem exchangeOver_pending (u : UnitAddr) :
    (exchangeOver u s).pending = s.pending := by
  simp only [exchangeOver]; (repeat' split) <;> simp

/-! ### recallOver -/
@[simp] theorem recallOver_ports (u : UnitAddr) :
    (recallOver u s).ports = s.ports := by
  simp only [recallOver]; (repeat' split) <;> simp
@[simp] theorem recallOver_port (u : UnitAddr) (y : Port) :
    (recallOver u s).port y = s.port y := by
  simp only [recallOver]; (repeat' split) <;> simp
@[simp] theorem recallOver_selectQ (u : UnitAddr) :
    (recallOver u s).ctb.selectQ = s.ctb.selectQ := by
  simp only [recallOver]; (repeat' split) <;> simp
@[simp] theorem recallOver_stopQ (u : UnitAddr) :
    (recallOver u s).ctb.stopQ = s.ctb.stopQ := by
  simp only [recallOver]; (repeat' split) <;> simp
@[simp] theorem recallOver_lnk (u : UnitAddr) :
    (recallOver u s).lnk = s.lnk := by
  simp only [recallOver]; (repeat' split) <;> simp
@[simp] theorem recallOver_queue (u : UnitAddr) (y : Port) :
    (recallOver u s).queue y = s.queue y := by
  simp only [recallOver]; (repeat' split) <;> simp
@[simp] theorem recallOver_seqNo (u : UnitAddr) (y : Port) :
    (recallOver u s).seqNo y = s.seqNo y := by
  simp only [recallOver]; (repeat' split) <;> simp
@[simp] theorem recallOver_heldList (u : UnitAddr) (y : Port) :
    (recallOver u s).heldList y = s.heldList y := by
  simp only [recallOver]; (repeat' split) <;> simp
@[simp] theorem recallOver_deferred (u : UnitAddr) :
    (recallOver u s).rcm.deferred = s.rcm.deferred := by
  simp only [recallOver]; (repeat' split) <;> simp
@[simp] theorem recallOver_page (u : UnitAddr) (y : PageNo) :
    (recallOver u s).page y = s.page y := by
  simp only [recallOver]; (repeat' split) <;> simp
@[simp] theorem recallOver_store (u : UnitAddr) :
    (recallOver u s).str.store = s.str.store := by
  simp only [recallOver]; (repeat' split) <;> simp
@[simp] theorem recallOver_dsc (u : UnitAddr) :
    (recallOver u s).dsc = s.dsc := by
  simp only [recallOver]; (repeat' split) <;> simp
@[simp] theorem recallOver_pending (u : UnitAddr) :
    (recallOver u s).pending = s.pending := by
  simp only [recallOver]; (repeat' split) <;> simp

/-! ### haltOnLink -/
@[simp] theorem haltOnLink_ports (u : UnitAddr) (c : HaltCause) :
    (haltOnLink u c s).ports = s.ports := by
  simp only [haltOnLink]; (repeat' split) <;> simp
@[simp] theorem haltOnLink_port (u : UnitAddr) (c : HaltCause) (y : Port) :
    (haltOnLink u c s).port y = s.port y := by
  simp only [haltOnLink]; (repeat' split) <;> simp
@[simp] theorem haltOnLink_selectQ (u : UnitAddr) (c : HaltCause) :
    (haltOnLink u c s).ctb.selectQ = s.ctb.selectQ := by
  simp only [haltOnLink]; (repeat' split) <;> simp
@[simp] theorem haltOnLink_lnk (u : UnitAddr) (c : HaltCause) :
    (haltOnLink u c s).lnk = s.lnk := by
  simp only [haltOnLink]; (repeat' split) <;> simp
@[simp] theorem haltOnLink_queue (u : UnitAddr) (c : HaltCause) (y : Port) :
    (haltOnLink u c s).queue y = s.queue y := by
  simp only [haltOnLink]; (repeat' split) <;> simp
@[simp] theorem haltOnLink_seqNo (u : UnitAddr) (c : HaltCause) (y : Port) :
    (haltOnLink u c s).seqNo y = s.seqNo y := by
  simp only [haltOnLink]; (repeat' split) <;> simp
@[simp] theorem haltOnLink_heldList (u : UnitAddr) (c : HaltCause) (y : Port) :
    (haltOnLink u c s).heldList y = s.heldList y := by
  simp only [haltOnLink]; (repeat' split) <;> simp
@[simp] theorem haltOnLink_deferred (u : UnitAddr) (c : HaltCause) :
    (haltOnLink u c s).rcm.deferred = s.rcm.deferred := by
  simp only [haltOnLink]; (repeat' split) <;> simp
@[simp] theorem haltOnLink_page (u : UnitAddr) (c : HaltCause) (y : PageNo) :
    (haltOnLink u c s).page y = s.page y := by
  simp only [haltOnLink]; (repeat' split) <;> simp
@[simp] theorem haltOnLink_store (u : UnitAddr) (c : HaltCause) :
    (haltOnLink u c s).str.store = s.str.store := by
  simp only [haltOnLink]; (repeat' split) <;> simp
@[simp] theorem haltOnLink_dsc (u : UnitAddr) (c : HaltCause) :
    (haltOnLink u c s).dsc = s.dsc := by
  simp only [haltOnLink]; (repeat' split) <;> simp
@[simp] theorem haltOnLink_pending (u : UnitAddr) (c : HaltCause) :
    (haltOnLink u c s).pending = s.pending := by
  simp only [haltOnLink]; (repeat' split) <;> simp

/-! ### adoptContext -/
@[simp] theorem adoptContext_ports (y : Port) (u : UnitAddr) :
    (adoptContext y u s).ports = s.ports := by
  simp only [adoptContext]; (repeat' split) <;> simp
@[simp] theorem adoptContext_port (y : Port) (u : UnitAddr) (y : Port) :
    (adoptContext y u s).port y = s.port y := by
  simp only [adoptContext]; (repeat' split) <;> simp
@[simp] theorem adoptContext_lnk (y : Port) (u : UnitAddr) :
    (adoptContext y u s).lnk = s.lnk := by
  simp only [adoptContext]; (repeat' split) <;> simp
@[simp] theorem adoptContext_deferred (y : Port) (u : UnitAddr) :
    (adoptContext y u s).rcm.deferred = s.rcm.deferred := by
  simp only [adoptContext]; (repeat' split) <;> simp
@[simp] theorem adoptContext_store (y : Port) (u : UnitAddr) :
    (adoptContext y u s).str.store = s.str.store := by
  simp only [adoptContext]; (repeat' split) <;> simp
@[simp] theorem adoptContext_dsc (y : Port) (u : UnitAddr) :
    (adoptContext y u s).dsc = s.dsc := by
  simp only [adoptContext]; (repeat' split) <;> simp
@[simp] theorem adoptContext_pending (y : Port) (u : UnitAddr) :
    (adoptContext y u s).pending = s.pending := by
  simp only [adoptContext]; (repeat' split) <;> simp

/-! ### adoptCounted -/
@[simp] theorem adoptCounted_lnk (y : Port) (u : UnitAddr) :
    (adoptCounted y u s).lnk = s.lnk := by
  simp only [adoptCounted]; (repeat' split) <;> simp
@[simp] theorem adoptCounted_deferred (y : Port) (u : UnitAddr) :
    (adoptCounted y u s).rcm.deferred = s.rcm.deferred := by
  simp only [adoptCounted]; (repeat' split) <;> simp
@[simp] theorem adoptCounted_store (y : Port) (u : UnitAddr) :
    (adoptCounted y u s).str.store = s.str.store := by
  simp only [adoptCounted]; (repeat' split) <;> simp
@[simp] theorem adoptCounted_dsc (y : Port) (u : UnitAddr) :
    (adoptCounted y u s).dsc = s.dsc := by
  simp only [adoptCounted]; (repeat' split) <;> simp
@[simp] theorem adoptCounted_pending (y : Port) (u : UnitAddr) :
    (adoptCounted y u s).pending = s.pending := by
  simp only [adoptCounted]; (repeat' split) <;> simp

/-! ### portResetContext -/
@[simp] theorem portResetContext_ports (u : UnitAddr) :
    (portResetContext u s).ports = s.ports := by
  simp only [portResetContext]; (repeat' split) <;> simp
@[simp] theorem portResetContext_port (u : UnitAddr) (y : Port) :
    (portResetContext u s).port y = s.port y := by
  simp only [portResetContext]; (repeat' split) <;> simp
@[simp] theorem portResetContext_lnk (u : UnitAddr) :
    (portResetContext u s).lnk = s.lnk := by
  simp only [portResetContext]; (repeat' split) <;> simp
@[simp] theorem portResetContext_queue (u : UnitAddr) (y : Port) :
    (portResetContext u s).queue y = s.queue y := by
  simp only [portResetContext]; (repeat' split) <;> simp
@[simp] theorem portResetContext_seqNo (u : UnitAddr) (y : Port) :
    (portResetContext u s).seqNo y = s.seqNo y := by
  simp only [portResetContext]; (repeat' split) <;> simp
@[simp] theorem portResetContext_heldList (u : UnitAddr) (y : Port) :
    (portResetContext u s).heldList y = s.heldList y := by
  simp only [portResetContext]; (repeat' split) <;> simp
@[simp] theorem portResetContext_deferred (u : UnitAddr) :
    (portResetContext u s).rcm.deferred = s.rcm.deferred := by
  simp only [portResetContext]; (repeat' split) <;> simp
@[simp] theorem portResetContext_store (u : UnitAddr) :
    (portResetContext u s).str.store = s.str.store := by
  simp only [portResetContext]; (repeat' split) <;> simp
@[simp] theorem portResetContext_dsc (u : UnitAddr) :
    (portResetContext u s).dsc = s.dsc := by
  simp only [portResetContext]; (repeat' split) <;> simp
@[simp] theorem portResetContext_pending (u : UnitAddr) :
    (portResetContext u s).pending = s.pending := by
  simp only [portResetContext]; (repeat' split) <;> simp

/-! ### linkResetContext -/
@[simp] theorem linkResetContext_ports (u : UnitAddr) :
    (linkResetContext u s).ports = s.ports := by
  simp only [linkResetContext]; (repeat' split) <;> simp
@[simp] theorem linkResetContext_port (u : UnitAddr) (y : Port) :
    (linkResetContext u s).port y = s.port y := by
  simp only [linkResetContext]; (repeat' split) <;> simp
@[simp] theorem linkResetContext_lnk (u : UnitAddr) :
    (linkResetContext u s).lnk = s.lnk := by
  simp only [linkResetContext]; (repeat' split) <;> simp
@[simp] theorem linkResetContext_deferred (u : UnitAddr) :
    (linkResetContext u s).rcm.deferred = s.rcm.deferred := by
  simp only [linkResetContext]; (repeat' split) <;> simp
@[simp] theorem linkResetContext_store (u : UnitAddr) :
    (linkResetContext u s).str.store = s.str.store := by
  simp only [linkResetContext]; (repeat' split) <;> simp
@[simp] theorem linkResetContext_dsc (u : UnitAddr) :
    (linkResetContext u s).dsc = s.dsc := by
  simp only [linkResetContext]; (repeat' split) <;> simp
@[simp] theorem linkResetContext_pending (u : UnitAddr) :
    (linkResetContext u s).pending = s.pending := by
  simp only [linkResetContext]; (repeat' split) <;> simp

end Sys2Proof.Laws
end

