-- ==== Sys2Proof/Laws/Link.lean ====
section
/-! SUPPORT. What the shared operations of LNK leave alone: one lemma for each operation and each part of the state it never touches. -/

namespace Sys2Proof.Laws

open Sys2Proof.Machine

variable (s : State)

/-! ### toOpened -/
@[simp] theorem toOpened_ports :
    (toOpened s).ports = s.ports := by
  simp only [toOpened]; (repeat' split) <;> simp
@[simp] theorem toOpened_port (y : Port) :
    (toOpened s).port y = s.port y := by
  simp only [toOpened]; (repeat' split) <;> simp
@[simp] theorem toOpened_ctx (w : UnitAddr) :
    (toOpened s).ctx w = s.ctx w := by
  simp only [toOpened]; (repeat' split) <;> simp
@[simp] theorem toOpened_selectQ :
    (toOpened s).ctb.selectQ = s.ctb.selectQ := by
  simp only [toOpened]; (repeat' split) <;> simp
@[simp] theorem toOpened_stopQ :
    (toOpened s).ctb.stopQ = s.ctb.stopQ := by
  simp only [toOpened]; (repeat' split) <;> simp
@[simp] theorem toOpened_queue (y : Port) :
    (toOpened s).queue y = s.queue y := by
  simp only [toOpened]; (repeat' split) <;> simp
@[simp] theorem toOpened_seqNo (y : Port) :
    (toOpened s).seqNo y = s.seqNo y := by
  simp only [toOpened]; (repeat' split) <;> simp
@[simp] theorem toOpened_heldList (y : Port) :
    (toOpened s).heldList y = s.heldList y := by
  simp only [toOpened]; (repeat' split) <;> simp
@[simp] theorem toOpened_deferred :
    (toOpened s).rcm.deferred = s.rcm.deferred := by
  simp only [toOpened]; (repeat' split) <;> simp
@[simp] theorem toOpened_page (y : PageNo) :
    (toOpened s).page y = s.page y := by
  simp only [toOpened]; (repeat' split) <;> simp
@[simp] theorem toOpened_store :
    (toOpened s).str.store = s.str.store := by
  simp only [toOpened]; (repeat' split) <;> simp
@[simp] theorem toOpened_dsc :
    (toOpened s).dsc = s.dsc := by
  simp only [toOpened]; (repeat' split) <;> simp
@[simp] theorem toOpened_pending :
    (toOpened s).pending = s.pending := by
  simp only [toOpened]; (repeat' split) <;> simp

/-! ### toHold -/
@[simp] theorem toHold_ports :
    (toHold s).ports = s.ports := by
  simp only [toHold]; (repeat' split) <;> simp
@[simp] theorem toHold_port (y : Port) :
    (toHold s).port y = s.port y := by
  simp only [toHold]; (repeat' split) <;> simp
@[simp] theorem toHold_ctx (w : UnitAddr) :
    (toHold s).ctx w = s.ctx w := by
  simp only [toHold]; (repeat' split) <;> simp
@[simp] theorem toHold_selectQ :
    (toHold s).ctb.selectQ = s.ctb.selectQ := by
  simp only [toHold]; (repeat' split) <;> simp
@[simp] theorem toHold_stopQ :
    (toHold s).ctb.stopQ = s.ctb.stopQ := by
  simp only [toHold]; (repeat' split) <;> simp
@[simp] theorem toHold_queue (y : Port) :
    (toHold s).queue y = s.queue y := by
  simp only [toHold]; (repeat' split) <;> simp
@[simp] theorem toHold_seqNo (y : Port) :
    (toHold s).seqNo y = s.seqNo y := by
  simp only [toHold]; (repeat' split) <;> simp
@[simp] theorem toHold_heldList (y : Port) :
    (toHold s).heldList y = s.heldList y := by
  simp only [toHold]; (repeat' split) <;> simp
@[simp] theorem toHold_deferred :
    (toHold s).rcm.deferred = s.rcm.deferred := by
  simp only [toHold]; (repeat' split) <;> simp
@[simp] theorem toHold_page (y : PageNo) :
    (toHold s).page y = s.page y := by
  simp only [toHold]; (repeat' split) <;> simp
@[simp] theorem toHold_store :
    (toHold s).str.store = s.str.store := by
  simp only [toHold]; (repeat' split) <;> simp
@[simp] theorem toHold_dsc :
    (toHold s).dsc = s.dsc := by
  simp only [toHold]; (repeat' split) <;> simp
@[simp] theorem toHold_pending :
    (toHold s).pending = s.pending := by
  simp only [toHold]; (repeat' split) <;> simp

/-! ### sendIn -/
@[simp] theorem sendIn_ports (e : Exchange) :
    (sendIn e s).ports = s.ports := by
  simp only [sendIn]; (repeat' split) <;> simp
@[simp] theorem sendIn_port (e : Exchange) (y : Port) :
    (sendIn e s).port y = s.port y := by
  simp only [sendIn]; (repeat' split) <;> simp
@[simp] theorem sendIn_ctx (e : Exchange) (w : UnitAddr) :
    (sendIn e s).ctx w = s.ctx w := by
  simp only [sendIn]; (repeat' split) <;> simp
@[simp] theorem sendIn_selectQ (e : Exchange) :
    (sendIn e s).ctb.selectQ = s.ctb.selectQ := by
  simp only [sendIn]; (repeat' split) <;> simp
@[simp] theorem sendIn_stopQ (e : Exchange) :
    (sendIn e s).ctb.stopQ = s.ctb.stopQ := by
  simp only [sendIn]; (repeat' split) <;> simp
@[simp] theorem sendIn_queue (e : Exchange) (y : Port) :
    (sendIn e s).queue y = s.queue y := by
  simp only [sendIn]; (repeat' split) <;> simp
@[simp] theorem sendIn_seqNo (e : Exchange) (y : Port) :
    (sendIn e s).seqNo y = s.seqNo y := by
  simp only [sendIn]; (repeat' split) <;> simp
@[simp] theorem sendIn_heldList (e : Exchange) (y : Port) :
    (sendIn e s).heldList y = s.heldList y := by
  simp only [sendIn]; (repeat' split) <;> simp
@[simp] theorem sendIn_deferred (e : Exchange) :
    (sendIn e s).rcm.deferred = s.rcm.deferred := by
  simp only [sendIn]; (repeat' split) <;> simp
@[simp] theorem sendIn_page (e : Exchange) (y : PageNo) :
    (sendIn e s).page y = s.page y := by
  simp only [sendIn]; (repeat' split) <;> simp
@[simp] theorem sendIn_store (e : Exchange) :
    (sendIn e s).str.store = s.str.store := by
  simp only [sendIn]; (repeat' split) <;> simp
@[simp] theorem sendIn_dsc (e : Exchange) :
    (sendIn e s).dsc = s.dsc := by
  simp only [sendIn]; (repeat' split) <;> simp
@[simp] theorem sendIn_pending (e : Exchange) :
    (sendIn e s).pending = s.pending := by
  simp only [sendIn]; (repeat' split) <;> simp

/-! ### openGrant -/
@[simp] theorem openGrant_ports (g : GrantKind) (k : ExKind) (u : Option UnitAddr) (f : CtlFrame) :
    (openGrant g k u f s).ports = s.ports := by
  simp only [openGrant]; (repeat' split) <;> simp
@[simp] theorem openGrant_port (g : GrantKind) (k : ExKind) (u : Option UnitAddr) (f : CtlFrame) (y : Port) :
    (openGrant g k u f s).port y = s.port y := by
  simp only [openGrant]; (repeat' split) <;> simp
@[simp] theorem openGrant_ctx (g : GrantKind) (k : ExKind) (u : Option UnitAddr) (f : CtlFrame) (w : UnitAddr) :
    (openGrant g k u f s).ctx w = s.ctx w := by
  simp only [openGrant]; (repeat' split) <;> simp
@[simp] theorem openGrant_selectQ (g : GrantKind) (k : ExKind) (u : Option UnitAddr) (f : CtlFrame) :
    (openGrant g k u f s).ctb.selectQ = s.ctb.selectQ := by
  simp only [openGrant]; (repeat' split) <;> simp
@[simp] theorem openGrant_stopQ (g : GrantKind) (k : ExKind) (u : Option UnitAddr) (f : CtlFrame) :
    (openGrant g k u f s).ctb.stopQ = s.ctb.stopQ := by
  simp only [openGrant]; (repeat' split) <;> simp
@[simp] theorem openGrant_queue (g : GrantKind) (k : ExKind) (u : Option UnitAddr) (f : CtlFrame) (y : Port) :
    (openGrant g k u f s).queue y = s.queue y := by
  simp only [openGrant]; (repeat' split) <;> simp
@[simp] theorem openGrant_seqNo (g : GrantKind) (k : ExKind) (u : Option UnitAddr) (f : CtlFrame) (y : Port) :
    (openGrant g k u f s).seqNo y = s.seqNo y := by
  simp only [openGrant]; (repeat' split) <;> simp
@[simp] theorem openGrant_heldList (g : GrantKind) (k : ExKind) (u : Option UnitAddr) (f : CtlFrame) (y : Port) :
    (openGrant g k u f s).heldList y = s.heldList y := by
  simp only [openGrant]; (repeat' split) <;> simp
@[simp] theorem openGrant_deferred (g : GrantKind) (k : ExKind) (u : Option UnitAddr) (f : CtlFrame) :
    (openGrant g k u f s).rcm.deferred = s.rcm.deferred := by
  simp only [openGrant]; (repeat' split) <;> simp
@[simp] theorem openGrant_page (g : GrantKind) (k : ExKind) (u : Option UnitAddr) (f : CtlFrame) (y : PageNo) :
    (openGrant g k u f s).page y = s.page y := by
  simp only [openGrant]; (repeat' split) <;> simp
@[simp] theorem openGrant_store (g : GrantKind) (k : ExKind) (u : Option UnitAddr) (f : CtlFrame) :
    (openGrant g k u f s).str.store = s.str.store := by
  simp only [openGrant]; (repeat' split) <;> simp
@[simp] theorem openGrant_dsc (g : GrantKind) (k : ExKind) (u : Option UnitAddr) (f : CtlFrame) :
    (openGrant g k u f s).dsc = s.dsc := by
  simp only [openGrant]; (repeat' split) <;> simp
@[simp] theorem openGrant_pending (g : GrantKind) (k : ExKind) (u : Option UnitAddr) (f : CtlFrame) :
    (openGrant g k u f s).pending = s.pending := by
  simp only [openGrant]; (repeat' split) <;> simp

/-! ### endExchange -/
@[simp] theorem endExchange_ports (e : Exchange) :
    (endExchange e s).ports = s.ports := by
  simp only [endExchange]; (repeat' split) <;> simp
@[simp] theorem endExchange_port (e : Exchange) (y : Port) :
    (endExchange e s).port y = s.port y := by
  simp only [endExchange]; (repeat' split) <;> simp
@[simp] theorem endExchange_selectQ (e : Exchange) :
    (endExchange e s).ctb.selectQ = s.ctb.selectQ := by
  simp only [endExchange]; (repeat' split) <;> simp
@[simp] theorem endExchange_queue (e : Exchange) (y : Port) :
    (endExchange e s).queue y = s.queue y := by
  simp only [endExchange]; (repeat' split) <;> simp
@[simp] theorem endExchange_seqNo (e : Exchange) (y : Port) :
    (endExchange e s).seqNo y = s.seqNo y := by
  simp only [endExchange]; (repeat' split) <;> simp
@[simp] theorem endExchange_heldList (e : Exchange) (y : Port) :
    (endExchange e s).heldList y = s.heldList y := by
  simp only [endExchange]; (repeat' split) <;> simp
@[simp] theorem endExchange_deferred (e : Exchange) :
    (endExchange e s).rcm.deferred = s.rcm.deferred := by
  simp only [endExchange]; (repeat' split) <;> simp
@[simp] theorem endExchange_page (e : Exchange) (y : PageNo) :
    (endExchange e s).page y = s.page y := by
  simp only [endExchange]; (repeat' split) <;> simp
@[simp] theorem endExchange_store (e : Exchange) :
    (endExchange e s).str.store = s.str.store := by
  simp only [endExchange]; (repeat' split) <;> simp
@[simp] theorem endExchange_dsc (e : Exchange) :
    (endExchange e s).dsc = s.dsc := by
  simp only [endExchange]; (repeat' split) <;> simp
@[simp] theorem endExchange_pending (e : Exchange) :
    (endExchange e s).pending = s.pending := by
  simp only [endExchange]; (repeat' split) <;> simp

/-! ### sendAbandon -/
@[simp] theorem sendAbandon_ports (e : Exchange) (u : UnitAddr) (x : Option Answer) :
    (sendAbandon e u x s).ports = s.ports := by
  simp only [sendAbandon]; (repeat' split) <;> simp
@[simp] theorem sendAbandon_port (e : Exchange) (u : UnitAddr) (x : Option Answer) (y : Port) :
    (sendAbandon e u x s).port y = s.port y := by
  simp only [sendAbandon]; (repeat' split) <;> simp
@[simp] theorem sendAbandon_ctx (e : Exchange) (u : UnitAddr) (x : Option Answer) (w : UnitAddr) :
    (sendAbandon e u x s).ctx w = s.ctx w := by
  simp only [sendAbandon]; (repeat' split) <;> simp
@[simp] theorem sendAbandon_selectQ (e : Exchange) (u : UnitAddr) (x : Option Answer) :
    (sendAbandon e u x s).ctb.selectQ = s.ctb.selectQ := by
  simp only [sendAbandon]; (repeat' split) <;> simp
@[simp] theorem sendAbandon_stopQ (e : Exchange) (u : UnitAddr) (x : Option Answer) :
    (sendAbandon e u x s).ctb.stopQ = s.ctb.stopQ := by
  simp only [sendAbandon]; (repeat' split) <;> simp
@[simp] theorem sendAbandon_queue (e : Exchange) (u : UnitAddr) (x : Option Answer) (y : Port) :
    (sendAbandon e u x s).queue y = s.queue y := by
  simp only [sendAbandon]; (repeat' split) <;> simp
@[simp] theorem sendAbandon_seqNo (e : Exchange) (u : UnitAddr) (x : Option Answer) (y : Port) :
    (sendAbandon e u x s).seqNo y = s.seqNo y := by
  simp only [sendAbandon]; (repeat' split) <;> simp
@[simp] theorem sendAbandon_heldList (e : Exchange) (u : UnitAddr) (x : Option Answer) (y : Port) :
    (sendAbandon e u x s).heldList y = s.heldList y := by
  simp only [sendAbandon]; (repeat' split) <;> simp
@[simp] theorem sendAbandon_deferred (e : Exchange) (u : UnitAddr) (x : Option Answer) :
    (sendAbandon e u x s).rcm.deferred = s.rcm.deferred := by
  simp only [sendAbandon]; (repeat' split) <;> simp
@[simp] theorem sendAbandon_page (e : Exchange) (u : UnitAddr) (x : Option Answer) (y : PageNo) :
    (sendAbandon e u x s).page y = s.page y := by
  simp only [sendAbandon]; (repeat' split) <;> simp
@[simp] theorem sendAbandon_store (e : Exchange) (u : UnitAddr) (x : Option Answer) :
    (sendAbandon e u x s).str.store = s.str.store := by
  simp only [sendAbandon]; (repeat' split) <;> simp
@[simp] theorem sendAbandon_dsc (e : Exchange) (u : UnitAddr) (x : Option Answer) :
    (sendAbandon e u x s).dsc = s.dsc := by
  simp only [sendAbandon]; (repeat' split) <;> simp
@[simp] theorem sendAbandon_pending (e : Exchange) (u : UnitAddr) (x : Option Answer) :
    (sendAbandon e u x s).pending = s.pending := by
  simp only [sendAbandon]; (repeat' split) <;> simp

/-! ### failExchange -/
@[simp] theorem failExchange_ports (e : Exchange) (u : UnitAddr) (x : Cond) (r : Option Answer) :
    (failExchange e u x r s).ports = s.ports := by
  simp only [failExchange]; (repeat' split) <;> simp
@[simp] theorem failExchange_port (e : Exchange) (u : UnitAddr) (x : Cond) (r : Option Answer) (y : Port) :
    (failExchange e u x r s).port y = s.port y := by
  simp only [failExchange]; (repeat' split) <;> simp
@[simp] theorem failExchange_deferred (e : Exchange) (u : UnitAddr) (x : Cond) (r : Option Answer) :
    (failExchange e u x r s).rcm.deferred = s.rcm.deferred := by
  simp only [failExchange]; (repeat' split) <;> simp
@[simp] theorem failExchange_store (e : Exchange) (u : UnitAddr) (x : Cond) (r : Option Answer) :
    (failExchange e u x r s).str.store = s.str.store := by
  simp only [failExchange]; (repeat' split) <;> simp
@[simp] theorem failExchange_dsc (e : Exchange) (u : UnitAddr) (x : Cond) (r : Option Answer) :
    (failExchange e u x r s).dsc = s.dsc := by
  simp only [failExchange]; (repeat' split) <;> simp
@[simp] theorem failExchange_pending (e : Exchange) (u : UnitAddr) (x : Cond) (r : Option Answer) :
    (failExchange e u x r s).pending = s.pending := by
  simp only [failExchange]; (repeat' split) <;> simp

/-! ### tryAgain -/
@[simp] theorem tryAgain_ports (e : Exchange) :
    (tryAgain e s).ports = s.ports := by
  simp only [tryAgain]; (repeat' split) <;> simp
@[simp] theorem tryAgain_port (e : Exchange) (y : Port) :
    (tryAgain e s).port y = s.port y := by
  simp only [tryAgain]; (repeat' split) <;> simp
@[simp] theorem tryAgain_ctx (e : Exchange) (w : UnitAddr) :
    (tryAgain e s).ctx w = s.ctx w := by
  simp only [tryAgain]; (repeat' split) <;> simp
@[simp] theorem tryAgain_selectQ (e : Exchange) :
    (tryAgain e s).ctb.selectQ = s.ctb.selectQ := by
  simp only [tryAgain]; (repeat' split) <;> simp
@[simp] theorem tryAgain_stopQ (e : Exchange) :
    (tryAgain e s).ctb.stopQ = s.ctb.stopQ := by
  simp only [tryAgain]; (repeat' split) <;> simp
@[simp] theorem tryAgain_queue (e : Exchange) (y : Port) :
    (tryAgain e s).queue y = s.queue y := by
  simp only [tryAgain]; (repeat' split) <;> simp
@[simp] theorem tryAgain_seqNo (e : Exchange) (y : Port) :
    (tryAgain e s).seqNo y = s.seqNo y := by
  simp only [tryAgain]; (repeat' split) <;> simp
@[simp] theorem tryAgain_heldList (e : Exchange) (y : Port) :
    (tryAgain e s).heldList y = s.heldList y := by
  simp only [tryAgain]; (repeat' split) <;> simp
@[simp] theorem tryAgain_deferred (e : Exchange) :
    (tryAgain e s).rcm.deferred = s.rcm.deferred := by
  simp only [tryAgain]; (repeat' split) <;> simp
@[simp] theorem tryAgain_page (e : Exchange) (y : PageNo) :
    (tryAgain e s).page y = s.page y := by
  simp only [tryAgain]; (repeat' split) <;> simp
@[simp] theorem tryAgain_store (e : Exchange) :
    (tryAgain e s).str.store = s.str.store := by
  simp only [tryAgain]; (repeat' split) <;> simp
@[simp] theorem tryAgain_dsc (e : Exchange) :
    (tryAgain e s).dsc = s.dsc := by
  simp only [tryAgain]; (repeat' split) <;> simp
@[simp] theorem tryAgain_pending (e : Exchange) :
    (tryAgain e s).pending = s.pending := by
  simp only [tryAgain]; (repeat' split) <;> simp

/-! ### beginLinkReset -/
@[simp] theorem beginLinkReset_ports :
    (beginLinkReset s).ports = s.ports := by
  simp only [beginLinkReset]; (repeat' split) <;> simp
@[simp] theorem beginLinkReset_port (y : Port) :
    (beginLinkReset s).port y = s.port y := by
  simp only [beginLinkReset]; (repeat' split) <;> simp
@[simp] theorem beginLinkReset_ctx (w : UnitAddr) :
    (beginLinkReset s).ctx w = s.ctx w := by
  simp only [beginLinkReset]; (repeat' split) <;> simp
@[simp] theorem beginLinkReset_selectQ :
    (beginLinkReset s).ctb.selectQ = s.ctb.selectQ := by
  simp only [beginLinkReset]; (repeat' split) <;> simp
@[simp] theorem beginLinkReset_stopQ :
    (beginLinkReset s).ctb.stopQ = s.ctb.stopQ := by
  simp only [beginLinkReset]; (repeat' split) <;> simp
@[simp] theorem beginLinkReset_queue (y : Port) :
    (beginLinkReset s).queue y = s.queue y := by
  simp only [beginLinkReset]; (repeat' split) <;> simp
@[simp] theorem beginLinkReset_seqNo (y : Port) :
    (beginLinkReset s).seqNo y = s.seqNo y := by
  simp only [beginLinkReset]; (repeat' split) <;> simp
@[simp] theorem beginLinkReset_heldList (y : Port) :
    (beginLinkReset s).heldList y = s.heldList y := by
  simp only [beginLinkReset]; (repeat' split) <;> simp
@[simp] theorem beginLinkReset_deferred :
    (beginLinkReset s).rcm.deferred = s.rcm.deferred := by
  simp only [beginLinkReset]; (repeat' split) <;> simp
@[simp] theorem beginLinkReset_page (y : PageNo) :
    (beginLinkReset s).page y = s.page y := by
  simp only [beginLinkReset]; (repeat' split) <;> simp
@[simp] theorem beginLinkReset_store :
    (beginLinkReset s).str.store = s.str.store := by
  simp only [beginLinkReset]; (repeat' split) <;> simp
@[simp] theorem beginLinkReset_dsc :
    (beginLinkReset s).dsc = s.dsc := by
  simp only [beginLinkReset]; (repeat' split) <;> simp
@[simp] theorem beginLinkReset_pending :
    (beginLinkReset s).pending = s.pending := by
  simp only [beginLinkReset]; (repeat' split) <;> simp

end Sys2Proof.Laws
end

