-- ==== Sys2Proof/Laws/Spec.lean ====
section
/-! SUPPORT. What each shared operation does, said once: records and notices, page runs, fetches, the end of an order, command
frames and received link frames. -/

namespace Sys2Proof.Laws

open Sys2Proof.Machine

variable (s : State)

/-! ### States by their parts -/

theorem ctb_ext {x y : Ctb} (hc : ∀ u : UnitAddr, x.contexts[u.val] = y.contexts[u.val]) (hs : x.selectQ = y.selectQ)
    (ht : x.stopQ = y.stopQ) : x = y := by
  cases x; cases y
  simp only [Ctb.mk.injEq]
  exact ⟨Vector.ext (fun i hi => hc ⟨i, hi⟩), hs, ht⟩

theorem rcm_ext {x y : Rcm} (hq : ∀ p, x.queues.get p = y.queues.get p) (hn : ∀ p, x.seqs.get p = y.seqs.get p)
    (hh : ∀ p, x.heldLists.get p = y.heldLists.get p) (hd : x.deferred = y.deferred) : x = y := by
  cases x; cases y
  simp only [Rcm.mk.injEq]
  exact ⟨perPort_ext hq, perPort_ext hn, perPort_ext hh, hd⟩

theorem str_ext {x y : Str} (hs : x.store = y.store) (hp : ∀ q : PageNo, x.pages[q.val] = y.pages[q.val]) : x = y := by
  cases x; cases y
  simp only [Str.mk.injEq]
  exact ⟨hs, Vector.ext (fun i hi => hp ⟨i, hi⟩)⟩

/-- Two states that read the same everywhere are the same. -/
theorem state_ext {s t : State} (ports : ∀ p, s.port p = t.port p) (ctx : ∀ u, s.ctx u = t.ctx u)
    (selectQ : s.ctb.selectQ = t.ctb.selectQ) (stopQ : s.ctb.stopQ = t.ctb.stopQ) (lnk : s.lnk = t.lnk)
    (queue : ∀ p, s.queue p = t.queue p) (seqNo : ∀ p, s.seqNo p = t.seqNo p)
    (heldList : ∀ p, s.heldList p = t.heldList p) (deferred : s.rcm.deferred = t.rcm.deferred)
    (page : ∀ q, s.page q = t.page q) (store : s.str.store = t.str.store) (dsc : s.dsc = t.dsc)
    (pending : s.pending = t.pending) : s = t := by
  have h1 := perPort_ext ports
  have h2 := ctb_ext ctx selectQ stopQ
  have h3 := rcm_ext queue seqNo heldList deferred
  have h4 := str_ext store page
  cases s; cases t
  simp_all

/-- Two link engines that agree on every part are the same. -/
theorem lnk_ext {x y : Lnk} (h1 : x.link = y.link) (h2 : x.exchange = y.exchange) (h3 : x.conn = y.conn)
    (h4 : x.replyTimer = y.replyTimer) (h5 : x.gapTimer = y.gapTimer) (h6 : x.linkTimer = y.linkTimer)
    (h7 : x.reception = y.reception) (h8 : x.srqLine = y.srqLine) (h9 : x.srqSampled = y.srqSampled)
    (h10 : x.grantMem = y.grantMem) (h11 : ∀ u : UnitAddr, x.answers[u.val] = y.answers[u.val]) : x = y := by
  cases x; cases y
  simp only [Lnk.mk.injEq]
  exact ⟨h1, h2, h3, h4, h5, h6, h7, h8, h9, h10, Vector.ext (fun i hi => h11 ⟨i, hi⟩)⟩

/-! ### Records and notices -/

theorem queueFull_eq_false (p : Port) : s.queueFull p = false ↔ roomIn s p := by
  rw [State.queueFull, Bool.or_eq_false_iff, decide_eq_false_iff_not]
  simp [roomIn, Config.queueDepth]

theorem queueFull_eq_true (p : Port) : s.queueFull p = true ↔ ¬ roomIn s p := by
  rw [← queueFull_eq_false]; simp

@[simp] theorem enqueue_queue (p x : Port) (b : RecordBody) :
    (enqueue p b s).queue x = if x = p then s.queue p ++ [{ seq := s.seqNo p, body := b }] else s.queue x := by
  simp [enqueue]

@[simp] theorem enqueue_seqNo (p x : Port) (b : RecordBody) :
    (enqueue p b s).seqNo x = if x = p then s.seqNo p + 1 else s.seqNo x := by
  simp [enqueue]

theorem enqueue_heldLists (p : Port) (b : RecordBody) : (enqueue p b s).rcm.heldLists = s.rcm.heldLists := rfl

/-- A notice is placed when its queue has room, else lost; nothing else of the ports differs. -/
theorem offerNotice_spec (p : Port) (code : NoticeCode) (arg : Option Nat) :
    noticeOffered p code arg s (offerNotice p code arg s) ∧
      (offerNotice p code arg s).port p =
        { s.port p with noticeLost := ((offerNotice p code arg s).port p).noticeLost } := by
  unfold offerNotice noticeOffered
  by_cases h : roomIn s p
  · have hf := (queueFull_eq_false s p).mpr h
    simp [hf, h]
  · have hf := (queueFull_eq_true s p).mpr h
    simp [hf, h]

/-- A notice to one queue leaves the other queue and the other port alone. -/
theorem offerNotice_other (p x : Port) (code : NoticeCode) (arg : Option Nat) (h : x ≠ p) :
    (offerNotice p code arg s).queue x = s.queue x ∧ (offerNotice p code arg s).seqNo x = s.seqNo x ∧
      (offerNotice p code arg s).port x = s.port x := by
  unfold offerNotice
  split <;> simp [h]

/-- A notice offered to both queues is offered to each as from the state before. -/
theorem offerBoth_spec (code : NoticeCode) (arg : Option Nat) (p : Port) :
    noticeOffered p code arg s (offerBoth code arg s) ∧
      (offerBoth code arg s).port p = { s.port p with noticeLost := ((offerBoth code arg s).port p).noticeLost } := by
  have ha := offerNotice_spec s .a code arg
  have hb := offerNotice_spec (offerNotice .a code arg s) .b code arg
  obtain ⟨oq, on, op⟩ := offerNotice_other s .a .b code arg (by decide)
  obtain ⟨pq, pn, pp⟩ := offerNotice_other (offerNotice .a code arg s) .b .a code arg (by decide)
  have hl : ∀ x y, (offerNotice y code arg s).heldList x = s.heldList x := by intros; simp
  unfold offerBoth
  cases p
  · simp only [noticeOffered, roomIn, pq, pn, pp] at ha ⊢; exact ha
  · simp only [noticeOffered, roomIn, oq, on, op, hl] at hb ⊢; exact hb

/-- A MILESTONE record is offered to its owner's queue. -/
theorem offerMilestone_spec (u : UnitAddr) (p : Port) (a : Word) (h : (s.ctx u).owner = some p) :
    milestoneOffered true u p a s (offerMilestone u a s) ∧
      (offerMilestone u a s).ctx u =
        { s.ctx u with milestoneMissed := ((offerMilestone u a s).ctx u).milestoneMissed } ∧
      ∀ v, v ≠ u → (offerMilestone u a s).ctx v = s.ctx v := by
  unfold offerMilestone milestoneOffered
  by_cases hr : roomIn s p
  · have hf := (queueFull_eq_false s p).mpr hr
    simp [h, hf, hr, enqueue_heldLists]
    rw [← h]
  · have hf := (queueFull_eq_true s p).mpr hr
    simp +contextual [h, hf, hr]

/-- The conditions of a record composed from a context. -/
theorem finalConds_eq (c : Context) : c.finalConds = closedWith c c.conds := by
  cases hh : c.halt with
  | none => cases ha : c.adopted <;> cases hm : c.milestoneMissed <;>
      simp [Context.finalConds, closedWith, Conds.addCause, Conds.addIf, Conds.add, hh, ha, hm]
  | some x => cases x <;> cases ha : c.adopted <;> cases hm : c.milestoneMissed <;>
      simp [Context.finalConds, closedWith, Conds.addCause, HaltCause.cond, Conds.addIf, Conds.add, hh, ha, hm]

/-! ### Contexts that leave -/

@[simp] theorem ceaseSegment_ctx (u v : UnitAddr) :
    (ceaseSegment u s).ctx v = if v = u then { s.ctx u with seg := none } else s.ctx v := by
  simp [ceaseSegment]

/-- A segment that ceases takes one use from its page. -/
theorem ceaseSegment_page (u : UnitAddr) (q : PageNo) :
    (ceaseSegment u s).page q =
      { s.page q with uses := (s.page q).uses - if (s.ctx u).segIn q then 1 else 0 } := by
  unfold ceaseSegment State.lowerSeg Context.segIn State.lowerPage
  cases hg : (s.ctx u).seg with
  | none => simp
  | some g =>
    by_cases hq : q = g.page
    · subst hq; simp
    · have : g.page ≠ q := fun e => hq e.symm
      simp [hq, this]

@[simp] theorem goIdle_ctx (u v : UnitAddr) : (goIdle u s).ctx v = if v = u then {} else s.ctx v := by
  simp [goIdle]
  split <;> simp_all

/-- A context that goes to IDLE takes the use of its segment's page with it. -/
theorem goIdle_page (u : UnitAddr) (q : PageNo) :
    (goIdle u s).page q = { s.page q with uses := (s.page q).uses - if (s.ctx u).segIn q then 1 else 0 } := by
  simp only [goIdle, modCtx_page, ceaseSegment_page]

@[simp] theorem leaveQueues_ctx (u v : UnitAddr) :
    (leaveQueues u s).ctx v = if v = u then { s.ctx u with stopQueued := false } else s.ctx v := by
  simp [leaveQueues]

@[simp] theorem leaveQueues_selectQ (u : UnitAddr) : (leaveQueues u s).ctb.selectQ = without u s.ctb.selectQ := by
  simp [leaveQueues]

@[simp] theorem leaveQueues_stopQ (u : UnitAddr) : (leaveQueues u s).ctb.stopQ = without u s.ctb.stopQ := by
  simp [leaveQueues]

/-- What the end of an order leaves alone, once its segment has ceased and it has left the queues of CTB. -/
theorem endFrame_of {u : UnitAddr} {t : State} {x : State} (hx : x = ceaseSegment u ((leaveQueues u s).modCtx u (fun c =>
      { c with conds := c.finalConds }))) (hc : ∀ v, v ≠ u → t.ctx v = x.ctx v)
    (hd : t.rcm.deferred = x.rcm.deferred) (hp : t.ports = x.ports) (hs : t.dsc = x.dsc) (hm : t.str.store = x.str.store)
    (hq : ∀ q, t.page q = x.page q) (h1 : t.ctb.selectQ = x.ctb.selectQ) (h2 : t.ctb.stopQ = x.ctb.stopQ)
    (hn : t.pending = x.pending) : endFrame u s t := by
  subst hx
  refine ⟨?_, hd.trans (by simp), hp.trans (by simp), hs.trans (by simp), hm.trans (by simp), ?_, h1.trans ?_, h2.trans ?_,
    hn.trans (by simp)⟩
  · intro v hv; simp [hc v hv, hv]
  · intro q
    have hc : ({ s.ctx u with stopQueued := false,
                              conds := ({ s.ctx u with stopQueued := false } : Context).finalConds } : Context).segIn q =
        (s.ctx u).segIn q := rfl
    simp [hq, ceaseSegment_page, hc]
  · simp [without]
  · simp [without]

/-- The end of an order by any route: its record dropped, placed or held (R10, R13, R117). -/
theorem endOrder_ended (u : UnitAddr) (p : Port) (n : Nat) (ho : (s.ctx u).owner = some p) :
    ended u p ((s.ctx u).compose u p n) s (endOrder u n s) := by
  have hf : ∀ x : State, x.queue p = s.queue p → x.heldList p = s.heldList p → (roomIn x p ↔ roomIn s p) := by
    intro x h1 h2; rw [roomIn, roomIn, h1, h2]
  refine ⟨fun hd => ?_, fun hd hr => ?_, fun hd hr => ?_⟩ <;> unfold endOrder <;>
    simp only [ho, hd, if_true, Bool.false_eq_true, if_false]
  · refine ⟨by simp, by simp, endFrame_of s rfl ?_ ?_ ?_ ?_ ?_ ?_ ?_ ?_ ?_⟩ <;> try simp
    · intro v hv; simp [hv]
    · intro q; simp [goIdle_page, Context.segIn]
  · rw [offerCompletion, (queueFull_eq_false _ _).2 ((hf _ (by simp) (by simp)).2 hr)]
    simp only [Bool.false_eq_true, if_false]
    refine ⟨by simp, by simp, by simp, by simp, by simp,
      perPort_ext (fun x => by change State.heldList _ x = State.heldList _ x; simp), endFrame_of s rfl ?_ ?_ ?_ ?_ ?_ ?_ ?_ ?_ ?_⟩ <;> try simp
    · intro v hv; simp [hv]
    · intro q; simp [goIdle_page, Context.segIn]
  · rw [offerCompletion, (queueFull_eq_true _ _).2 (fun h => hr ((hf _ (by simp) (by simp)).1 h))]
    simp only [if_true, holdRecord]
    refine ⟨?_, ?_, by simp, by simp, endFrame_of s rfl ?_ ?_ ?_ ?_ ?_ ?_ ?_ ?_ ?_⟩ <;> try simp
    · simp [Context.compose, Context.finalConds]
    · intro v hv; simp [hv]

/-- The end of an order is the same from any state that reads as the first one does where the end looks. -/
theorem ended_of {u : UnitAddr} {p : Port} {r : Completion} {s s' t : State} (h : ended u p r s' t)
    (rcm : s'.rcm = s.rcm) (ctx : ∀ v, v ≠ u → s'.ctx v = s.ctx v)
    (own : s'.ctx u = { s.ctx u with conds := (s'.ctx u).conds, unitStatus := (s'.ctx u).unitStatus,
                                     jumps := (s'.ctx u).jumps })
    (ports : s'.ports = s.ports) (dsc : s'.dsc = s.dsc) (store : s'.str.store = s.str.store)
    (page : ∀ q, s'.page q = s.page q) (selectQ : s'.ctb.selectQ = s.ctb.selectQ) (stopQ : s'.ctb.stopQ = s.ctb.stopQ)
    (pending : s'.pending = s.pending) : ended u p r s t := by
  have hd : (s'.ctx u).discard = (s.ctx u).discard := by rw [own]
  have hg : (s'.ctx u).seg = (s.ctx u).seg := by rw [own]
  have hq : ∀ q, (s'.ctx u).segIn q = (s.ctx u).segIn q := by intro q; simp only [Context.segIn, hg]
  have hr : roomIn s' p ↔ roomIn s p := by simp [roomIn, State.queue, State.heldList, rcm]
  have hfr : endFrame u s' t → endFrame u s t := by
    rintro ⟨a1, a2, a3, a4, a5, a6, a7, a8, a9⟩
    refine ⟨fun v hv => (a1 v hv).trans (ctx v hv), a2.trans (by rw [rcm]), a3.trans ports, a4.trans dsc, a5.trans store,
      ?_, a7.trans (by rw [selectQ]), a8.trans (by rw [stopQ]), a9.trans pending⟩
    intro q; rw [a6, page, hq]
  obtain ⟨h1, h2, h3⟩ := h
  refine ⟨fun hh => ?_, fun hh hro => ?_, fun hh hro => ?_⟩
  · obtain ⟨a, b, c⟩ := h1 (hd.trans hh)
    exact ⟨a, b.trans rcm, hfr c⟩
  · obtain ⟨a, b, c, d, e, f, g⟩ := h2 (hd.trans hh) (hr.2 hro)
    simp only [State.queue, State.seqNo, rcm] at a b d e ⊢
    exact ⟨a, b, c, d, e, f.trans (by rw [rcm]), hfr g⟩
  · obtain ⟨a, b, c, d, e⟩ := h3 (hd.trans hh) (fun x => hro (hr.1 x))
    refine ⟨?_, ?_, c.trans (by rw [rcm]), d.trans (by rw [rcm]), hfr e⟩
    · rw [a, own]
    · intro x; rw [b]; simp [State.heldList, rcm]

/-- A failed order ends with its condition, no unit status and its segment's residual (R102). -/
theorem failOrder_ended (u : UnitAddr) (p : Port) (a : Word) (x : Cond) (ho : (s.ctx u).owner = some p)
    (hp : (s.ctx u).inProgress = true) (ha : (s.ctx u).descAddr = some a) :
    ended u p
      { unit := u, owner := p, lastDesc := a, resume := a + 8, residual := (s.ctx u).residual,
        conds := closedWith (s.ctx u) ((s.ctx u).conds.add x), status := none } s (failOrder u x s) := by
  have hr := endOrder_ended (s.modCtx u (fun c => ({ c with unitStatus := none }).gain x)) u p (s.ctx u).residual
    (by simpa [Context.gain] using ho)
  have hx : (({ s.ctx u with unitStatus := none } : Context).gain x).compose u p (s.ctx u).residual =
      { unit := u, owner := p, lastDesc := a, resume := a + 8, residual := (s.ctx u).residual,
        conds := closedWith (s.ctx u) ((s.ctx u).conds.add x), status := none } := by
    simp [Context.compose, Context.gain, ha, finalConds_eq, closedWith]
  simp only [ctx_modCtx, if_true, hx] at hr
  simp only [failOrder, hp, if_true]
  apply ended_of hr <;> intros <;> simp_all [Context.gain]

/-! ### Fetches -/

/-- A fetch reads the page table and the store and nothing else. -/
theorem fetch_congr {s t : State} (h : s.str = t.str) (purpose : FetchFor) (p : Port) (a : Nat) :
    fetch purpose p s a = fetch purpose p t a := by
  have hb : ∀ x, s.byteAt x = t.byteAt x := by intro x; simp [State.byteAt, h]
  have hq : ∀ q, s.page q = t.page q := by intro q; simp [State.page, h]
  have hp : ∀ q, s.pageOpen p q = t.pageOpen p q := by intro q; unfold State.pageOpen; rw [hq]
  have hd : ∀ x, s.descriptorAt x = t.descriptorAt x := by intro x; simp [State.descriptorAt, hb]
  have hr : ∀ x, fetchRead purpose p s x = fetchRead purpose p t x := by intro x; simp [fetchRead, hp, hd]
  have hf : ∀ n x, fetchFrom purpose p s n x = fetchFrom purpose p t n x := by
    intro n
    induction n with
    | zero => intro x; simp [fetchFrom, hr]
    | succ n ih => intro x; simp [fetchFrom, hr, ih]
  exact hf _ _

/-! ### Command frames -/

/-- What a port command does when its frame is taken: it runs on what `judged` gives, and its response is formed (R173). -/
theorem takeCommand_eq (p : Port) (code : Byte) (args : List Byte) (f : State → State × Response)
    (h : s.takes p code args) :
    takeCommand p code args f s = respond p (f (s.judged p code args)).2 (f (s.judged p code args)).1 := by
  simp [takeCommand, takeFrame, h.1, h.2, State.judged]

/-- A good frame leaves everything but the ports and the completion queues as it was. -/
theorem judged_same (p : Port) (code : Byte) (args : List Byte) :
    sameButPortsAndQueues s (s.judged p code args) ∧ (s.judged p code args).dsc = s.dsc := by
  have hl : ∀ (x : Port) (c : NoticeCode) (a : Option Nat) (y : State),
      (offerNotice x c a y).rcm.heldLists = y.rcm.heldLists ∧ (offerNotice x c a y).ctb = y.ctb ∧
        (offerNotice x c a y).str = y.str := by
    intro x c a y; unfold offerNotice; split <;> exact ⟨rfl, rfl, rfl⟩
  unfold State.judged goodFrame resume frameTaken State.modReceiver sameButPortsAndQueues
  (repeat' split) <;> simp [hl]

/-! ### Link frames -/

section
variable (l : Lnk)
@[simp] theorem heard_link : l.heard.link = l.link := rfl
@[simp] theorem heard_exchange : l.heard.exchange = l.exchange := rfl
@[simp] theorem heard_conn : l.heard.conn = l.conn := rfl
@[simp] theorem heard_answers : l.heard.answers = l.answers := rfl
@[simp] theorem heard_grantMem : l.heard.grantMem = l.grantMem := rfl
@[simp] theorem heard_linkTimer : l.heard.linkTimer = l.linkTimer := rfl
@[simp] theorem heard_srqLine : l.heard.srqLine = l.srqLine := rfl
@[simp] theorem heard_srqSampled : l.heard.srqSampled = l.srqSampled := rfl
@[simp] theorem heard_reception : l.heard.reception = .none := rfl
@[simp] theorem heard_replyTimer : l.heard.replyTimer = .stopped := rfl
@[simp] theorem heard_gapTimer : l.heard.gapTimer = .stopped := rfl
end

theorem unitOf_names {addr : Byte} {u : UnitAddr} (h : names addr u) : unitOf addr = some u := by
  have : addr.toNat < 32 := by rw [h]; exact u.isLt
  simp only [unitOf, this, dif_pos]
  congr 1; exact Fin.ext h

/-- A frame LNK waits for is taken by the link state and the exchange in flight, its timers stopped. -/
theorem receiveFrom_awaited {addr : Byte} {u : UnitAddr} (f : UnitAddr → UnitFrame) (hn : names addr u)
    (ha : s.awaits = true) : receiveFrom addr f s = awaitedFrame (f u) (s.modLnk Lnk.heard) := by
  simp only [receiveFrom, unitOf_names hn, receiveFrame, ha, if_true]
  rfl

/-! ### Page ranges -/

theorem rangeOk_iff (first number : Byte) : rangeOk first number = true ↔ rangeFits first number := by
  simp only [rangeOk, rangeFits, Bool.and_eq_true, decide_eq_true_eq]
  tauto

/-- The pages of a range that fits are those whose numbers lie in it. -/
theorem mem_pageRange {first number : Byte} (h : rangeFits first number) (q : PageNo) :
    q ∈ pageRange first.toNat number.toNat ↔ inRange first number q := by
  obtain ⟨h1, h2, h3, h4⟩ := h
  simp only [pageRange, List.mem_map, List.mem_range, inRange]
  constructor
  · rintro ⟨i, hi, rfl⟩
    have : (first.toNat + i) % 64 = first.toNat + i := Nat.mod_eq_of_lt (by omega)
    simp only [this]; omega
  · rintro ⟨ha, hb⟩
    refine ⟨q.val - first.toNat, by omega, Fin.ext ?_⟩
    have := q.isLt
    show (first.toNat + (q.val - first.toNat)) % 64 = q.val
    rw [show first.toNat + (q.val - first.toNat) = q.val by omega]
    exact Nat.mod_eq_of_lt this

/-- Pages tagged: those of the list take the tag, every page keeps its use count. -/
theorem tagPages_page (t : Tag) (qs : List PageNo) : ∀ (s : State) (q : PageNo),
    (s.tagPages t qs).page q = if q ∈ qs then { tag := t, uses := (s.page q).uses } else s.page q := by
  induction qs with
  | nil => intro s q; simp [State.tagPages]
  | cons r rs ih =>
    intro s q
    have h := ih (s.modPage r (fun e => { e with tag := t })) q
    simp only [State.tagPages, List.foldl_cons] at h ⊢
    rw [h]
    by_cases hq : q ∈ rs <;> by_cases hr : q = r <;> simp [hq, hr]

/-- Pages tagged: nothing but the page table differs. -/
theorem tagPages_eq (t : Tag) (qs : List PageNo) : ∀ s : State,
    s.tagPages t qs = s.withPages (s.tagPages t qs).str.pages := by
  induction qs with
  | nil => intro s; rfl
  | cons r rs ih =>
    intro s
    have h := ih (s.modPage r (fun e => { e with tag := t }))
    simp only [State.tagPages, List.foldl_cons] at h ⊢
    rw [h]; rfl

/-- The pages of a range in their order. -/
theorem pageRange_sorted {first number : Nat} (h : first + number ≤ 64) :
    (pageRange first number).Pairwise (fun q r => q < r) := by
  simp only [pageRange, List.pairwise_map]
  have : (List.range number).Pairwise (fun i j => i < j) := List.pairwise_lt_range
  refine this.imp_of_mem ?_
  intro i j hi hj hij
  rw [List.mem_range] at hi hj
  show (first + i) % 64 < (first + j) % 64
  rw [Nat.mod_eq_of_lt (by omega), Nat.mod_eq_of_lt (by omega)]; omega

/-- A search of a sorted list of pages for one that fails a test finds the lowest. -/
theorem find_lowest (l : List PageNo) (ok : PageNo → Bool) (hs : l.Pairwise (fun q r => q < r)) (q : PageNo) :
    l.find? (fun r => !ok r) = some q ↔ lowestFailing (fun r => r ∈ l) (fun r => ok r = true) q := by
  induction l with
  | nil => simp [lowestFailing]
  | cons r rs ih =>
    rw [List.pairwise_cons] at hs
    by_cases hr : ok r = true
    · have hf : (r :: rs).find? (fun r => !ok r) = rs.find? (fun r => !ok r) := by simp [hr]
      rw [hf, ih hs.2]
      constructor
      · rintro ⟨h1, h2, h3⟩
        refine ⟨List.mem_cons_of_mem _ h1, h2, fun x hx hlt => ?_⟩
        rcases List.mem_cons.mp hx with rfl | hx
        · exact hr
        · exact h3 x hx hlt
      · rintro ⟨h1, h2, h3⟩
        rcases List.mem_cons.mp h1 with rfl | h1
        · exact absurd hr h2
        · exact ⟨h1, h2, fun x hx => h3 x (List.mem_cons_of_mem _ hx)⟩
    · have hf : (r :: rs).find? (fun r => !ok r) = some r := by simp [hr]
      rw [hf, Option.some_inj]
      constructor
      · rintro rfl
        refine ⟨List.mem_cons_self, hr, fun x hx hlt => ?_⟩
        rcases List.mem_cons.mp hx with rfl | hx
        · exact absurd hlt (lt_irrefl _)
        · exact absurd (hs.1 x hx) (not_lt_of_gt hlt)
      · rintro ⟨h1, _, h3⟩
        rcases List.mem_cons.mp h1 with rfl | h1
        · rfl
        · exact absurd (h3 r List.mem_cons_self (hs.1 q h1)) hr

/-- No page of a list fails a test when the search finds none. -/
theorem find_none_iff (l : List PageNo) (ok : PageNo → Bool) :
    l.find? (fun r => !ok r) = none ↔ ∀ r ∈ l, ok r = true := by simp

/-- The address check of R54. -/
theorem bytesOk_iff (addr : Word) (n : Nat) : bytesOk addr n = true ↔ bytesFit addr n := by
  simp only [bytesOk, bytesFit, Bool.and_eq_true, decide_eq_true_eq]
  tauto

/-- A range of bytes that fits the store touches no pages but those of its first and its last byte. -/
theorem holdsByte_iff {addr : Word} {n : Nat} (h : bytesFit addr n) (q : PageNo) :
    holdsByte addr n q ↔ q = pageOf addr ∨ q = pageOf (addr + BitVec.ofNat 16 (n - 1)) := by
  obtain ⟨h1, h2, h3, h4⟩ := h
  have hl : (addr + BitVec.ofNat 16 (n - 1)).toNat = addr.toNat + (n - 1) := by
    simp only [BitVec.toNat_add, BitVec.toNat_ofNat]; omega
  simp only [holdsByte, pageOf, Fin.ext_iff, hl]
  constructor
  · rintro ⟨i, hi, he⟩; omega
  · rintro (he | he)
    · exact ⟨0, by omega, by omega⟩
    · exact ⟨n - 1, by omega, by omega⟩

end Sys2Proof.Laws
end

