-- ==== Sys2Proof/Laws/Serving.lean ====
section
/-! SUPPORT. What a frame LNK waits for does: the rows of the link as received frames, and the REQ of an order
as CTB serves it. -/

namespace Sys2Proof.Laws

open Sys2Proof.Machine

variable (s : State)

/-! ### Rows of the link -/

theorem receiveReq_eq (addr : Byte) (mark : Bool) (body : ReqBody) :
    receiveReq addr mark body s = receiveFrame (reqFrame addr mark body) s := by
  unfold receiveReq reqFrame receiveFrom
  cases body with
  | inData bs =>
    by_cases h : 1 ≤ bs.length ∧ bs.length ≤ Config.frameBytes
    · have hb : bodyWellFormed (.inData bs) = true := by simp [bodyWellFormed, inDataWellFormed, h]
      simp only [h, and_self, if_true, hb]
      cases unitOf addr <;> rfl
    · have hb : bodyWellFormed (.inData bs) = false := by
        simp only [bodyWellFormed, inDataWellFormed, Bool.and_eq_false_iff, decide_eq_false_iff_not]; tauto
      simp only [h, if_false, hb]
      cases unitOf addr <;> rfl
  | outData => cases unitOf addr <;> rfl
  | status st => cases unitOf addr <;> rfl

theorem receiveFrom_eq (addr : Byte) (f : UnitAddr → UnitFrame) :
    receiveFrom addr f s = receiveFrame ((unitOf addr).elim .corrupt f) s := by
  unfold receiveFrom
  cases unitOf addr <;> rfl

/-- A row that is a frame of a unit does what the end of that frame does. -/
theorem exec_linkFrame {c : Instr} {f : UnitFrame} (h : linkFrame c = some f) : exec c s = .next (receiveFrame f s) := by
  cases c
  case rsp addr st => cases h; exact congrArg Host.Outcome.next (receiveFrom_eq s addr _)
  case reqInData addr mark data => cases h; exact congrArg Host.Outcome.next (receiveReq_eq s addr mark _)
  case reqOutData addr mark => cases h; exact congrArg Host.Outcome.next (receiveReq_eq s addr mark _)
  case reqStatus addr mark st => cases h; exact congrArg Host.Outcome.next (receiveReq_eq s addr mark _)
  case reqRepeat addr body => cases h; exact congrArg Host.Outcome.next (receiveReq_eq s addr true body)
  case ack addr => cases h; exact congrArg Host.Outcome.next (receiveFrom_eq s addr _)
  case nak addr => cases h; exact congrArg Host.Outcome.next (receiveFrom_eq s addr _)
  case corruptFrame => cases h; rfl
  all_goals cases h

/-- A frame LNK waits for is taken by the link state and the exchange in flight, its timers stopped. -/
theorem receiveFrame_awaited (f : UnitFrame) (h : s.awaits = true) :
    receiveFrame f s = awaitedFrame f (s.modLnk Lnk.heard) := by
  simp only [receiveFrame, h, if_true]; rfl

/-! ### The REQs of an order -/

theorem served_eq (u : UnitAddr) :
    s.served u = if (s.ctx u).state = .disconnected then connect u s else s := rfl

/-- What CTB forms its answer to a data REQ from: the model's own two steps (R97 steps 1 and 2). -/
theorem begun_eq (u : UnitAddr) (h : ((s.served u).ctx u).desc ≠ none) :
    s.begun u = ensureSegment u (s.served u) := by
  unfold State.begun
  generalize s.served u = b at h
  cases hd : (b.ctx u).desc with
  | none => exact absurd hd h
  | some d =>
    simp only [ensureSegment, firstSegment, hd]
    by_cases hg : (b.ctx u).seg = none ∧ (b.ctx u).conds.storeFault = false
    · by_cases hk : d.kind = .input ∨ d.kind = .output
      · simp only [hg, hk, and_self, if_true]
        cases ho : (b.ctx u).owner with
        | none =>
          simp [becomeCurrent, ho, testLookahead, Context.wantsLookahead, dataFault, Context.gain, Context.requestHalt,
            Conds.add, hg, hd]
        | some p =>
          by_cases hp : b.pageOpen p (pageOf d.addr) = true
          · simp only [becomeCurrent, ho, hp, Option.mem_some_iff, exists_eq_left', if_true, hg, State.lowerSeg,
              State.raisePage, testLookahead, Context.wantsLookahead, ctx_modCtx, modPage_ctx, hd]
            simp only [Bool.and_eq_true, decide_eq_true_eq, Context.nextDesc, Config.frameBytes]
            by_cases hl : d.kind = .input ∧ d.link = .nextSegment ∧ (b.ctx u).lookahead = .absent ∧
                (b.ctx u).halt = none ∧ d.count.toNat ≤ 16
            · obtain ⟨h1, h2, h3, h4, h5⟩ := hl
              simp only [h1, h2, h3, h4, h5, and_self, if_true]
              split <;> simp_all
            · rw [if_neg hl, if_neg (fun h' => hl ⟨h'.1.1.1.1, h'.1.1.1.2, h'.1.1.2, h'.1.2, of_decide_eq_true h'.2⟩)]
          · simp [becomeCurrent, ho, hp, testLookahead, Context.wantsLookahead, dataFault, Context.gain,
              Context.requestHalt, Conds.add, hg, hd]
      · simp [hg, hk]
    · have : ¬ ((b.ctx u).seg = none ∧ (b.ctx u).conds.storeFault = false ∧ (d.kind = .input ∨ d.kind = .output)) := by
        tauto
      simp [hg, this]

/-- How a REQ that LNK hears reaches its order: the tries, the note of a corrupt frame and the opener of its exchange. -/
def heardAs (s : State) (tries : Nat) (corrupt : Bool) (opener : Option GrantKind) : Prop :=
  (s.lnk.link = .hold ∧ tries = 1 ∧ corrupt = false ∧ opener = none) ∨
    (∃ e, s.awaitsReply e ∧ e.kind = .request ∧ tries = e.tries + 1 ∧ corrupt = e.corrupt ∧ opener = none) ∨
    (s.polls ∧ tries = 1 ∧ corrupt = false ∧ opener = some .poll)

/-- A REQ of an order that is no repeat is served on the context taken up. -/
theorem hears_exec {c : Instr} {u : UnitAddr} {mark : Bool} {body : ReqBody} (hl : linkFrame c = some (.req u mark body))
    (hh : s.hears u) (hr : s.repeatAnswer u mark body = none) :
    ∃ tries corrupt opener, heardAs s tries corrupt opener ∧
      exec c s = .next (serveOrder u body tries corrupt opener ((s.modLnk Lnk.heard).served u)) := by
  have hr' : (s.modLnk Lnk.heard).repeatAnswer u mark body = none := hr
  have hconn : (s.ctx u).state = .connected → (s.modLnk Lnk.heard).served u = s.modLnk Lnk.heard := by
    intro h; simp [State.served, h]
  rw [exec_linkFrame s hl]
  rcases hh with (⟨h1, h2, h3, h4⟩ | ⟨_, h4, e, _, ⟨h1, h6, h7, h8, h3⟩, hk, hu⟩) |
    ⟨⟨e, he, ⟨h1, h6, h7, h8, h3⟩, hk⟩, h4, h5⟩
  · refine ⟨1, false, none, Or.inl ⟨h1, rfl, rfl, rfl⟩, ?_⟩
    rw [receiveFrame_awaited s _ h3, hconn h4]
    simp [awaitedFrame, h1, h2, longFrame, longReq, hr']
  · refine ⟨e.tries + 1, e.corrupt, none, Or.inr (Or.inl ⟨e, ⟨h1, h6, h7, h8, h3⟩, hk, rfl, rfl, rfl⟩), ?_⟩
    rw [receiveFrame_awaited s _ h3, hconn h4]
    simp [awaitedFrame, h1, h6, hk, hu, longFrame, longReq, hr']
  · refine ⟨1, false, some .poll, Or.inr (Or.inr ⟨⟨e, he, ⟨h1, h6, h7, h8, h3⟩, hk⟩, rfl, rfl, rfl⟩), ?_⟩
    have h4' : (s.modLnk Lnk.heard).entry u ≠ none := h4
    obtain ⟨x, hx⟩ := Option.ne_none_iff_exists'.1 h4'
    rw [receiveFrame_awaited s _ h3, served_eq]
    simp [awaitedFrame, h1, h6, hk, pollReply, polledReq, hr', hx, h5]

/-! ### Orders that fail -/

/-- The end of an order does not look at the link engine. -/
theorem ended_modLnk (u : UnitAddr) (p : Port) (r : Completion) (f : Lnk → Lnk) (t : State) :
    ended u p r (s.modLnk f) t ↔ ended u p r s t := Iff.rfl

/-- What is sent after the end of an order does not touch it. -/
theorem ended_of_eq {u : UnitAddr} {p : Port} {r : Completion} {x t : State} (h : ended u p r s x)
    (ht : { t with lnk := x.lnk } = x) : ended u p r s t := by
  rw [← ht] at h; exact h

/-- An exchange that fails sends STP in the abandon form, which is the unit's answer memory entry where one is given (R73, R83). -/
theorem failExchange_abandons (e : Exchange) (u : UnitAddr) (x : Cond) (entry : Option Answer) (hu : e.unit = some u) :
    abandons u entry (failExchange e u x entry s) := by
  refine ⟨⟨rfl, rfl, rfl, _, rfl, hu, rfl, rfl, rfl⟩, rfl, ?_⟩
  change ((sendIn _ (failOrder u x s)).setAnswer u entry).answer u = entry
  simp

/-- An exchange that fails ends its order with its condition (R102). -/
theorem failExchange_ended (e : Exchange) (u : UnitAddr) (p : Port) (a : Word) (x : Cond) (entry : Option Answer)
    (ho : (s.ctx u).owner = some p) (hp : (s.ctx u).inProgress = true) (ha : (s.ctx u).descAddr = some a) :
    ended u p
      { unit := u, owner := p, lastDesc := a, resume := a + 8, residual := (s.ctx u).residual,
        conds := closedWith (s.ctx u) ((s.ctx u).conds.add x), status := none } s (failExchange e u x entry s) :=
  ended_of_eq s (failOrder_ended s u p a x ho hp ha) rfl

end Sys2Proof.Laws
end

