-- ==== Sys2Proof/Tests/Slice0.lean ====
section
/-! SUPPORT. The model's own tests: ill-formed commands refused, check values and layouts, single steps of each family, and for
every statement with hypotheses a state and operands that meet them, clause by clause. -/

namespace Sys2Proof.Tests

set_option Elab.async false
set_option synthInstance.maxSize 20000
set_option synthInstance.maxHeartbeats 200000

open Sys2Proof.Machine

/-! ### Ill-formed commands -/

theorem test_writeStore_without_data_is_ill_formed : (Instr.writeStore .a 0 []).wellFormed = false := by decide
theorem test_writeStore_of_65_bytes_is_ill_formed :
    (Instr.writeStore .a 0 (List.replicate 65 0)).wellFormed = false := by decide
theorem test_badCommand_that_is_a_command_is_ill_formed : (Instr.badCommand .a 0x02 []).wellFormed = false := by decide
theorem test_badCommand_of_71_arguments_is_ill_formed :
    (Instr.badCommand .a 0x16 (List.replicate 71 0)).wellFormed = false := by decide
theorem test_frameError_with_a_good_crc_is_ill_formed :
    (Instr.frameError .a (commandFrame 0x02 [])).wellFormed = false := by decide +kernel
theorem test_frameError_that_is_no_frame_is_ill_formed : (Instr.frameError .a [2, 1, 0]).wellFormed = false := by decide
theorem test_argumentLengthError_of_70_is_ill_formed :
    (Instr.argumentLengthError .a 3 70).wellFormed = false := by decide
theorem test_link_address_32_is_ill_formed :
    (Instr.rsp 32 0).wellFormed = false ∧ (Instr.reqInData 32 false [1]).wellFormed = false ∧
      (Instr.reqOutData 32 false).wellFormed = false ∧ (Instr.reqStatus 32 false 0).wellFormed = false ∧
      (Instr.reqRepeat 32 .outData).wellFormed = false ∧ (Instr.ack 32).wellFormed = false ∧
      (Instr.nak 32).wellFormed = false := by decide
theorem test_input_frames_of_0_and_17_bytes_are_ill_formed :
    (Instr.reqInData 3 false []).wellFormed = false ∧
      (Instr.reqInData 3 false (List.replicate 17 0)).wellFormed = false ∧
      (Instr.reqRepeat 3 (.inData [])).wellFormed = false := by decide
theorem test_image_of_six_bytes_is_ill_formed :
    (Instr.loadAttemptEnd [0x54, 0x43, 0x4E, 0x64, 1, 0]).wellFormed = false := by decide
theorem test_image_cut_after_a_good_header_is_ill_formed :
    (Instr.loadAttemptEnd [0x54, 0x43, 0x4E, 0x64, 1, 0, 20]).wellFormed = false := by decide

/-! ### Check values and layouts -/

/-- The CRC-8 check value of "123456789" for polynomial 07h, initial value FFh. -/
theorem test_crc8_check_value : crc8 [0x31, 0x32, 0x33, 0x34, 0x35, 0x36, 0x37, 0x38, 0x39] = 0xFB := by decide +kernel

/-- The CRC-16 check value of "123456789" for polynomial 1021h, initial value FFFFh. -/
theorem test_crc16_check_value :
    crc16 [0x31, 0x32, 0x33, 0x34, 0x35, 0x36, 0x37, 0x38, 0x39] = 0x29B1 := by decide +kernel

/-- The descriptor at 0600h of 11.3. -/
theorem test_descriptor_of_11_3 :
    rawDescriptor 0x21 0x33 0x00 0x20 0x00 0x00 0x14 =
      { kind := some .input, code := 0x33, link := some .nextSegment, discard := false, lengthOk := false,
        milestone := false, addr := 0x2000, count := 20 } := by decide

/-- Bits 7 and 6 of byte 0 and bits 7 to 3 of byte 2 are ignored; kind 0 and link 3 are none (R186). -/
theorem test_descriptor_fields_outside_the_table :
    rawDescriptor 0xC4 0 0xF8 0 8 0 1 =
        { kind := some .seg, code := 0, link := some .endOrder, discard := false, lengthOk := false, milestone := false,
          addr := 8, count := 1 } ∧
      (rawDescriptor 0x30 1 0 0 0 0 1).kind = none ∧ (rawDescriptor 0x31 1 0 0 0 0 1).link = none := by decide

/-- The record of 10.6.4: OUT order of unit 26 halted by port B. -/
theorem test_completion_record_bytes :
    Record.bytes { seq := 0x0102,
                   body := .completion { unit := 26, owner := .b, lastDesc := 0x0A00, resume := 0x0A08, residual := 32,
                                         conds := { length := true, halted := true }, status := some 1 } } =
      [1, 1, 2, 26, 3, 1, 0x0A, 0x00, 0x0A, 0x08, 0, 32, 0, 0x81, 0, 0] := by decide

theorem test_other_record_bytes :
    Record.bytes { seq := 7, body := .attention 14 2 } = [2, 0, 7, 14, 0, 2, 0, 0, 0, 0, 0, 0, 0, 0, 0, 0] ∧
      Record.bytes { seq := 8, body := .milestone 3 0x0608 } = [3, 0, 8, 3, 0, 0, 6, 8, 0, 0, 0, 0, 0, 0, 0, 0] ∧
      Record.bytes { seq := 9, body := .notice .adoptedAway (some 2) } =
        [4, 0, 9, 6, 1, 2, 0, 0, 0, 0, 0, 0, 0, 0, 0, 0] := by decide

/-- SEL to unit 8 in LONG mode with direction IN: type 10h, address, length 2, code, mode and direction (11.6). -/
theorem test_sel_on_the_wire :
    (CtlFrame.sel 8 0x33 .long .input).wire.take 8 = [0x55, 0x55, 0xD5, 0x10, 8, 2, 0x33, 3] := by decide +kernel

theorem test_req_status_is_classified :
    classifyFrame (wireFrame 0x22 5 [0x21]) = .req 5 false (.status 0x21) ∧
      classifyFrame (wireFrame 0x22 32 [1]) = .corrupt ∧ classifyFrame (wireFrame 0x26 5 []) = .corrupt ∧
      classifyFrame (wireFrame 0x20 5 []) = .corrupt ∧
      classifyFrame ((wireFrame 0x24 5 []).dropLast ++ [0]) = .corrupt := by decide +kernel

/-- An image with a bad CRC, a lease period of 0, or a unit listed twice is not valid (R156). -/
theorem test_images :
    let image := fun (es : List Byte) (n lease : Byte) =>
      let b : List Byte := [0x54, 0x43, 0x4E, 0x64, 1, n, lease] ++ es
      b ++ [hiByte (crc16 b), loByte (crc16 b)]
    directoryOf (image [8, 1, 0, 0] 1 20) =
        some { entries := [{ unit := 8, mode := .long, home := .a, silence := 0 }], lease := 20 } ∧
      directoryOf (image [8, 1, 0, 0] 1 0) = none ∧ directoryOf (image [8, 1, 0, 0, 8, 0, 1, 9] 2 20) = none ∧
      directoryOf (image [8, 2, 0, 0] 1 20) = none ∧
      directoryOf ((image [8, 1, 0, 0] 1 20).dropLast ++ [0]) = none := by decide +kernel

/-! ### Small states -/

/-- A directory with unit 3 in LONG mode at home A, unit 4 in SHORT mode at home B and unit 5 in LONG mode at home B. -/
def dir : Directory :=
  { entries := [{ unit := 3, mode := .long, home := .a, silence := 0 }, { unit := 4, mode := .short, home := .b, silence := 30 },
      { unit := 5, mode := .long, home := .b, silence := 0 }],
    lease := 20 }

/-- A READY part with the link in OPEN: page 3 belongs to port A, page 16 to port A, page 17 is SHARED. -/
def base : State :=
  { State.reset with
    dsc := { State.reset.dsc with part := .ready, active := some dir, load := .loaded }
    lnk := { State.reset.lnk with link := .opened, linkTimer := .stopped }
    str := { State.reset.str with
      pages := ((pagesReset.set 3 { tag := .portA, uses := 0 }).set 16 { tag := .portA, uses := 0 }).set 17
        { tag := .shared, uses := 0 } } }

/-- Bytes written without any check, to set a state up. -/
def stored (a : Word) (bs : List Byte) (s : State) : State := s.writeBytes a bs

/-- Chip select of a port asserted and some bytes of a frame taken. -/
def rx (p : Port) (bytes : List Byte) (s : State) : State :=
  s.modPort p (fun x =>
    { x with chipSelect := true, receiver := { state := .receiving, bytes := bytes, count := bytes.length, response := none } })

/-- A receiver in another state with so many bytes counted. -/
def rxIn (p : Port) (st : ReceiverState) (frame : List Byte) (n : Nat) (r : Option Response) (s : State) : State :=
  s.modPort p (fun x => { x with chipSelect := true, receiver := { state := st, bytes := frame, count := n, response := r } })

def lapsed (p : Port) (s : State) : State := s.modPort p (fun x => { x with state := .lapsed, lease := .stopped })

def inPart (x : PartState) (s : State) : State := s.modDsc (fun d => { d with part := x })

def withCtx (u : UnitAddr) (c : Context) (s : State) : State := s.modCtx u (fun _ => c)

/-- A queue of so many ATTENTION records. -/
def filled (p : Port) (n : Nat) (s : State) : State :=
  (s.setQueue p ((List.range n).map (fun i => { seq := BitVec.ofNat 16 i, body := .attention 6 1 }))).setSeqNo p
    (BitVec.ofNat 16 n)

def inD : Descriptor :=
  { kind := .input, code := 0x33, link := .endOrder, discard := false, lengthOk := false, milestone := false,
    addr := 0x2000, count := 20 }

def outD : Descriptor := { inD with kind := .output }

def ctrlD : Descriptor := { inD with kind := .ctrl, addr := 0, count := 0 }

def segD : Descriptor := { inD with kind := .seg, code := 0, addr := 0x2200, count := 40 }

/-- The bytes of a SEG: END, address 2200h, count 40; with other kind and link bits in its first byte other descriptors. -/
def descBytes (b0 : Byte) : List Byte := [b0, 0x33, 0, 0, 0x22, 0, 0, 40]

/-- An order of port A in a state, its descriptor at 0600h. -/
def order (st : CtxState) (d : Descriptor) : Context :=
  { state := st, owner := some .a, desc := some d, descAddr := some 0x0600 }

def seg (n : Nat) : Segment := { addr := 0x2000, remaining := n, page := 16 }

def aRecord : Completion :=
  { unit := 3, owner := .a, lastDesc := 0x0600, resume := 0x0608, residual := 0, conds := {}, status := some 1 }

def heldCtx : Context := { state := .held, owner := some .a, descAddr := some 0x0600, heldRecord := some aRecord }

def queued (u : UnitAddr) (s : State) : State := (withCtx u (order .queued inD) s).modSelectQ (fun l => l ++ [u])

def stopping (u : UnitAddr) (s : State) : State :=
  (withCtx u { order .disconnected inD with halt := some .halt, stopQueued := true } s).modStopQ (fun l => l ++ [u])

/-- A LONG connection of a unit in HOLD, its context CONNECTED. -/
def held (u : UnitAddr) (c : Context) (s : State) : State :=
  (withCtx u { c with state := .connected } s).modLnk (fun l =>
    { l with link := .hold, conn := some u, gapTimer := .running Config.gapTimeout })

/-- An exchange whose frame has been sent, the reply awaited. -/
def awaiting (e : Exchange) (s : State) : State :=
  s.modLnk (fun l => { l with link := .exchange, exchange := some e, replyTimer := .running Config.replyTimeout })

def exch (k : ExKind) (u : Option UnitAddr) (f : CtlFrame) (g : Option GrantKind) : Exchange :=
  { kind := k, unit := u, frame := f, tries := 1, corrupt := false, opener := g, sending := false, more := [] }

def selEx : Exchange := exch .selection (some 3) (.sel 3 0x33 .long .input) (some .selection)
def selEx4 : Exchange := exch .selection (some 4) (.sel 4 0x33 .short .input) (some .selection)
def haltEx : Exchange := exch .haltSelection (some 3) (.sel 3 0xFF .short .none) (some .haltSelection)
def pollEx : Exchange := exch .poll none .poll (some .poll)
def rclEx : Exchange := exch .recall (some 3) (.rcl 3) (some .recall)
def datEx (bs : List Byte) : Exchange := exch .dataOut (some 3) (.dat 3 bs) none

/-! ### Single steps -/

/-- What a step answers, when it is a next state. -/
def next (c : Instr) (s : State) : State :=
  match step { s with pending := [c] } with
  | .next t => t
  | .fault _ => s
  | .refused _ => s

/-- The response port A's receiver holds. -/
def said (s : State) : Option Response := (s.port .a).receiver.response

theorem test_reset_is_what_power_on_leaves :
    next (.powerOnEnd strapsLow) (next .powerOn State.reset) = State.reset := by decide +kernel

theorem test_empty_queue_idles : step State.reset = .next State.reset := by rfl

theorem test_keepalive : said (next (.keepalive .a) (rx .a [] base)) = some (.bare .ok) := by decide +kernel

theorem test_commands_need_a_receiving_port : next (.keepalive .a) base = base := by decide +kernel

theorem test_read_status :
    said (next (.readStatus .a) (rx .a [] (filled .a 16 base))) =
      some { code := .ok, data := [0, 2, 3, 16, 0, 0, 0, 0, 100, 0, 0] } := by decide +kernel

theorem test_start_queues_the_unit :
    (next (.start .a 3 0x0600) (rx .a [] (stored 0x0600 (descBytes 0x01) base))).ctb.selectQ = [3] := by decide +kernel

theorem test_start_of_a_seg_is_a_program_fault :
    said (next (.start .a 3 0x0600) (rx .a [] (stored 0x0600 (descBytes 0x04) base))) =
      some (.bare .programFault) := by decide +kernel

theorem test_start_in_a_free_page_is_a_page_fault :
    said (next (.start .a 3 0x0800) (rx .a [] base)) = some (.bare .pageFault) := by decide +kernel

theorem test_halt_of_an_idle_unit : said (next (.halt .a 3) (rx .a [] base)) = some (.bare .idle) := by decide +kernel

theorem test_query_unit :
    said (next (.queryUnit .a 3) (rx .a [] (withCtx 3 { order .connected inD with seg := some (seg 18) } base))) =
      some { code := .ok, data := [3, 0, 6, 0, 0, 18, 0, 0, 0] } := by decide +kernel

theorem test_adopt_all_counts :
    said (next (.adopt .a 0xFF) (rx .a [] (lapsed .b (withCtx 3 { order .selecting inD with owner := some .b } base)))) =
      some { code := .ok, data := [1] } := by decide +kernel

theorem test_take_record_refills :
    let s := next (.takeRecord .a) (rx .a [] ((withCtx 3 heldCtx (filled .a 16 base)).setHeldList .a [3]))
    (s.queue .a).length = 16 ∧ s.heldList .a = [] ∧ (s.ctx 3) = {} := by decide +kernel

theorem test_peek_record : said (next (.peekRecord .a) (rx .a [] base)) = some (.bare .empty) := by decide +kernel

theorem test_peer_take_of_an_active_peer :
    said (next (.peerTake .a) (rx .a [] base)) = some (.bare .peerActive) := by decide +kernel

theorem test_write_then_read_store :
    said (next (.readStore .a 0x21FF 2) (rx .a [] (next (.writeStore .a 0x21FF [7, 8]) (rx .a [] base)))) =
      some { code := .ok, data := [7, 8] } := by decide +kernel

theorem test_read_store_over_a_closed_page_names_it :
    said (next (.readStore .a 0x07FF 2) (rx .a [] base)) = some { code := .pageFault, data := [4] } := by decide +kernel

theorem test_claim_names_the_lowest_page_in_use :
    said (next (.claimPages .b 2 3) (rx .b [] base)) = none ∧
      ((next (.claimPages .b 2 3) (rx .b [] base)).port .b).receiver.response =
        some { code := .inUse, data := [3] } := by decide +kernel

theorem test_share_pages : ((next (.sharePages .a 16 1) (rx .a [] base)).page 16).tag = .shared := by decide +kernel

theorem test_release_of_a_page_in_use :
    said (next (.releasePages .a 16 2) (rx .a [] (base.modPage 17 (fun e => { e with uses := 1 })))) =
      some { code := .inUse, data := [17] } := by decide +kernel

theorem test_query_pages :
    said (next (.queryPages .a 16 2) (rx .a [] (base.modPage 17 (fun e => { e with uses := 32 })))) =
      some { code := .ok, data := [0x40, 0xE0] } := by decide +kernel

theorem test_port_reset_drops_queued_orders :
    let s := next (.portReset .a) (rx .a [] (queued 3 (filled .a 2 base)))
    s.ctx 3 = {} ∧ s.ctb.selectQ = [] ∧ s.queue .a = [] ∧ s.seqNo .a = 0 ∧ (s.queue .b).length = 1 := by decide +kernel

theorem test_link_reset_counts_the_orders_it_ends :
    let s := next (.linkReset .b) (rx .b [] (queued 3 base))
    (s.queue .b).map Record.body = [.notice .linkResetDone (some 1)] ∧ (s.queue .a).length = 2 ∧
      s.lnk.link = .inBreak := by decide +kernel

theorem test_part_reset_by_both_ports :
    let s := next (.partReset .a) (rx .a [] base)
    said s = some (.bare .pending) ∧ (next (.partReset .b) (rx .b [] s)).dsc.agreed = some .b := by decide +kernel

theorem test_load_commit_and_read_directory :
    let s := next (.loadDirectory .a 0 9 1 0 5) (rx .a [] base)
    let t := next (.commitDirectory .a 1 50) (rx .a [] s)
    said s = some (.bare .ok) ∧ said t = some (.bare .ok) ∧
      said (next (.readDirectory .a 0) (rx .a [] t)) = some { code := .ok, data := [1, 50, 9, 1, 0, 5] } := by
  decide +kernel

theorem test_bad_frames_are_answered :
    said (next (.badCommand .a 0x16 []) (rx .a [] base)) = some (.bare .badCommand) ∧
      said (next (.frameError .a [2, 0, 0]) (rx .a [] base)) = some (.bare .frameError) ∧
      said (next (.argumentLengthError .a 3 71) (rx .a [] base)) = some (.bare .frameError) := by decide +kernel

/-- A KEEPALIVE clocked byte by byte is answered OK, and its response follows two turnaround bytes. -/
theorem test_bytes_of_a_frame :
    let s := (commandFrame 0x02 []).foldl (fun s b => next (.byteTaken .a b) s) (next (.chipSelectAssert .a) base)
    let t := next (.byteTaken .a 0) (next (.byteTaken .a 0) s)
    said s = some (.bare .ok) ∧ s.output .a = some 0xFF ∧ t.output .a = some 0 ∧
      (next (.chipSelectDeassert .a) t).output .a = none := by decide +kernel

theorem test_lease_and_stamp_expiry :
    let s := base.modPort .a (fun x => { x with lease := .running 5, stamp := .set (.running 5) })
    ((next (.leaseExpiry .a) s).port .a).state = .lapsed ∧ ((next (.stampExpiry .a) s).port .a).stamp = .void := by
  decide +kernel

theorem test_start_up_from_memory :
    let s := next .settleEnd (next .breakEnd State.reset)
    s.lnk.link = .opened ∧ s.dsc.load = .first ∧ (next (.loadAttemptEnd []) s).dsc.load = .second := by decide +kernel

/-- A unit's frame in reception holds LNK's own frame back (R72, log 28). -/
theorem test_frame_sent_waits_for_the_end_of_reception :
    let s := (base.modLnk (fun l => { l with srqSampled := true }))
    let t := next .frameStart (next .pollGrant s)
    t.linkPair = .driverOff ∧ next .frameSent t = t ∧ (next .corruptFrame t).linkPair = .sends .poll ∧
      (next .frameSent (next .corruptFrame t)).lnk.replyTimer = .running 100 := by decide +kernel

/-- What the part drives on the link pair and the configuration port (R86, R155, R187). -/
theorem test_pins :
    let s := base.modDsc (fun d => { d with load := .second })
    (next .powerOn s).linkPair = .driverOff ∧ (next .powerOn s).cfgSelected = false ∧ State.reset.linkPair = .broken ∧
      s.cfgSelected = true ∧ s.cfgSends = [0x03, 0, 0, 0] ∧ State.reset.cfgSelected = false := by decide +kernel

/-- A response that has been clocked out is kept no longer (R170, R182). -/
theorem test_response_is_dropped_once_clocked_out :
    let s := rxIn .a .responding (commandFrame 0x02 []) 7 (some (.bare .ok)) base
    ((next (.byteTaken .a 0) s).port .a).receiver =
      { state := .draining, bytes := commandFrame 0x02 [], count := 8, response := none } := by decide +kernel

theorem test_reset_pin :
    let s := next .resetAssert base
    s.dsc.cause = .pin ∧ s.dsc.phase = .held ∧ (next (.resetRelease strapsLow) s).lnk.linkTimer = .running 1000 := by
  decide +kernel

theorem test_agreed_reset : (next .agreedResetTaken (base.modDsc (fun d => { d with agreed := some .a }))).dsc.cause = .part := by
  decide +kernel

theorem test_grants_in_the_order_of_r89 :
    let s := next (.srqChange true) (queued 3 base)
    (next .pollGrant s).lnk.grantMem = some .poll ∧ next .selectionGrant s = s ∧
      (next .haltSelectionGrant (stopping 4 s)).lnk.grantMem = some .haltSelection ∧
      (next .recallGrant (s.setDeferred [5])).lnk.grantMem = some .recall ∧
      ((next .selectionGrant (queued 3 base)).ctx 3).state = .selecting := by decide +kernel

theorem test_selection_accepted_and_first_frame_taken :
    let s := next (.rsp 3 0) (awaiting selEx (withCtx 3 (order .selecting inD) base))
    let t := next (.reqInData 3 false [1, 2, 3]) s
    s.lnk.link = .hold ∧ (s.page 16).uses = 1 ∧ t.readBytes 0x2000 4 = [1, 2, 3, 0] ∧
      t.lnk.exchange.map Exchange.frame = some (.ack 3) ∧ (next .frameSent t).lnk.link = .hold := by decide +kernel

/-- The second frame of 10.6.2: 4 bytes stored, 6 discarded, 6 stored, over three segments. -/
theorem test_one_input_frame_across_three_segments :
    let s := held 3 { order .connected { inD with link := .nextSegment } with
      seg := some { addr := 0x2010, remaining := 4, page := 16 },
      lookahead := .present { segD with link := .nextSegment, discard := true, addr := 0x2100, count := 6 } 0x0608 }
      (stored 0x0610 (descBytes 0x04) (base.modPage 16 (fun e => { e with uses := 1 })))
    let t := next (.reqInData 3 false [1, 2, 3, 4, 5, 6, 7, 8, 9, 10, 11, 12, 13, 14, 15, 16]) s
    (t.ctx 3).seg = some { addr := 0x2206, remaining := 34, page := 17 } ∧ (t.ctx 3).descAddr = some 0x0610 ∧
      (t.page 16).uses = 0 ∧ (t.page 17).uses = 1 ∧ t.readBytes 0x2010 5 = [1, 2, 3, 4, 0] ∧
      t.readBytes 0x2100 2 = [0, 0] ∧ t.readBytes 0x2200 7 = [11, 12, 13, 14, 15, 16, 0] := by decide +kernel

theorem test_output_order :
    let s := held 3 { order .connected outD with seg := some (seg 20) } (stored 0x2000 [9, 8] base)
    let t := next (.reqOutData 3 false) s
    t.lnk.exchange.map Exchange.datLength = some 16 ∧ (next (.nak 3) (next .frameSent t)).lnk.link = .exchange ∧
      ((next (.ack 3) (next .frameSent t)).ctx 3).seg = some { addr := 0x2010, remaining := 4, page := 16 } := by
  decide +kernel

theorem test_ending_status_completes_the_order :
    let s := next (.reqStatus 3 false 1) (held 3 { order .connected inD with seg := some (seg 18) } base)
    (s.queue .a).map Record.body =
        [.completion { aRecord with residual := 18, conds := { length := true } }] ∧ s.ctx 3 = {} ∧
      s.lnk.exchange.map Exchange.frame = some (.tak 3) := by decide +kernel

theorem test_repeat_is_answered_again :
    (next (.reqRepeat 3 (.status 1)) ((held 3 (order .connected inD) base).setAnswer 3
      (some { kind := .status, frame := .tak 3 }))).lnk.exchange.map Exchange.frame = some (.tak 3) := by decide +kernel

theorem test_corrupt_frame_in_hold_is_answered_nak :
    (next .corruptFrame (held 3 (order .connected inD) base)).lnk.exchange.map Exchange.frame = some (.nak 3) := by
  decide +kernel

theorem test_frame_start_stops_the_timer :
    (next .frameStart (held 3 (order .connected inD) base)).lnk.gapTimer = .stopped ∧
      (next .frameStart base).lnk.reception = .ignored := by decide +kernel

theorem test_timers_of_the_link :
    let s := awaiting selEx (withCtx 3 (order .selecting inD) base)
    let t := next .gapTimerExpiry (held 3 (order .connected inD) base)
    (next .replyTimerExpiry s).lnk.exchange.map Exchange.tries = some 2 ∧
      t.lnk.exchange.map Exchange.frame = some (.stp .abandon 3) ∧ t.ctx 3 = {} := by decide +kernel

theorem test_silence_expiry_joins_the_stop_queue :
    (next (.silenceTimerExpiry 4) (withCtx 4 { order .disconnected inD with silence := .running 300000 } base)).ctb.stopQ =
      [4] := by decide +kernel

/-! ### Witnesses: for each statement, states and operands that meet its hypotheses -/

/-- What the command of a frame finds on port `p` of a state whose receiver has taken nothing yet. -/
def found (p : Port) (code : Byte) (args : List Byte) (s : State) : State := (rx p [] s).judged p code args

theorem witness_AStepRunsTheCommandAtTheFront :
    ({ base with pending := [.powerOn, .breakEnd] } : State).pending = .powerOn :: [.breakEnd] ∧ base.pending = [] := by
  decide +kernel

theorem witness_PowerOnAndTheResetPinResetThePart :
    let off := base.modDsc (fun d => { d with phase := .powerOn })
    base.dsc.phase = .none ∧ off.dsc.phase ≠ .none ∧ off.dsc.phase = .powerOn ∧ off.dsc.resetPin = false ∧
      (off.modDsc (fun d => { d with resetPin := true })).dsc.phase = .powerOn ∧
      (off.modDsc (fun d => { d with resetPin := true })).dsc.resetPin = true ∧
      (base.modDsc (fun d => { d with phase := .held })).dsc.phase = .held := by decide +kernel

theorem witness_TheAgreedResetIsTakenWithCausePart :
    let s := rxIn .a .responding (commandFrame 0x12 []) 7 (some (.bare .ok)) (base.modDsc (fun d => { d with agreed := some .a }))
    s.dsc.agreed = some .a ∧ s.dsc.phase = .none ∧ (s.port .a).receiver.state = .responding ∧
      (s.port .a).receiver.count + 1 = (s.port .a).receiver.bytes.length + 2 + (s.port .a).receiver.responseLength := by
  decide +kernel

theorem witness_TheLinkResetTimerLeadsToOpenAndThroughStartUp :
    let start := State.reset.modLnk (fun l => { l with link := .settle, linkTimer := .running 5000 })
    let load := start.modDsc (fun d => { d with straps := { strapsLow with cfgSrc := .portLoad } })
    (State.reset.lnk.link = .inBreak ∧ State.reset.lnk.linkTimer.runs = true) ∧
      (start.lnk.link = .settle ∧ start.lnk.linkTimer.runs = true ∧ (inPart .ready start).dsc.part ≠ .loading) ∧
      (start.dsc.part = .loading ∧ start.dsc.load = .none ∧ start.dsc.straps.cfgSrc = .memory) ∧
      (load.dsc.straps.cfgSrc = .portLoad ∧
        ((load.port .a).state = .active ∧ (load.port .a).leasePeriod = 100) ∧
        ((load.port .b).state = .active ∧ (load.port .b).leasePeriod = 100)) ∧
      (base.lnk.link ≠ .inBreak ∧ base.lnk.link ≠ .settle) ∧ (start.dsc.phase = .none ∧ base.lnk.link = .opened) := by
  decide +kernel

/-- The image of some entries' bytes with its CRC. -/
def imageOf (n lease : Byte) (es : List Byte) : List Byte :=
  let b : List Byte := [0x54, 0x43, 0x4E, 0x64, 1, n, lease] ++ es
  b ++ [hiByte (crc16 b), loByte (crc16 b)]

theorem witness_ALoadAttemptEndsAsItsImageSays :
    directoryOf (imageOf 0 1 []) = some { entries := [], lease := 1 } ∧
      directoryOf (imageOf 1 255 [31, 1, 1, 255]) =
        some { entries := [{ unit := 31, mode := .long, home := .b, silence := 255 }], lease := 255 } ∧
      directoryOf [] = none ∧ (base.modDsc (fun d => { d with load := .first })).dsc.load = .first ∧
      (base.modDsc (fun d => { d with load := .second })).dsc.load = .second ∧
      (base.dsc.phase = .none ∧ base.dsc.load ≠ .first ∧ base.dsc.load ≠ .second) ∧
      (let d : Directory := { entries := [{ unit := 31, mode := .long, home := .b, silence := 255 }], lease := 255 }
       validDirectory d ∧ imageOf 1 255 [31, 1, 1, 255] = imageBody d ++ [hiByte (crc16 (imageBody d)), loByte (crc16 (imageBody d))]) := by
  unfold validDirectory; decide +kernel

theorem witness_ChipSelectOpensAndEndsATransaction :
    base.dsc.phase = .none ∧ (base.port .a).receiver.state = .unselected ∧ base.dsc.agreed ≠ some .a := by decide +kernel

theorem witness_AByteMovesTheTransactionOn :
    let frame := commandFrame 0x02 []
    let r : Response := { code := .inUse, data := [63] }
    let receiving := (rx .a [3] base).port .a
    let turning := fun n => (rxIn .a .turnaround frame n (some r) base).port .a
    let responding := fun n => (rxIn .a .responding frame n (some r) base).port .a
    base.dsc.phase = .none ∧ base.dsc.agreed ≠ some .a ∧
      (receiving.receiver.state = .receiving ∧ frameWhole (receiving.receiver.bytes ++ [70]) = false ∧
        receiving.receiver.bytes.length = 1 ∧ (70 : Byte).toNat ≤ 70) ∧
      (turning 3).receiver.count = (turning 3).receiver.bytes.length ∧
      (turning 4).receiver.count = (turning 4).receiver.bytes.length + 1 ∧
      (responding 7).receiver.count + 1 < (responding 7).receiver.bytes.length + 2 + (responding 7).receiver.responseLength ∧
      (responding 8).receiver.count + 1 = (responding 8).receiver.bytes.length + 2 + (responding 8).receiver.responseLength ∧
      ((rxIn .a .draining frame 9 (some r) base).port .a).receiver.state = .draining ∧
      ((rxIn .a .ignoring [] 0 none base).port .a).receiver.state = .ignoring ∧
      (base.port .a).chipSelect = false ∧ receiving.chipSelect = true ∧ receiving.receiver.state ≠ .responding ∧
      ((responding 8).chipSelect = true ∧ (responding 8).receiver.state = .responding ∧
        (responding 8).receiver.response = some r ∧ (responding 8).receiver.count = (responding 8).receiver.bytes.length + 2 + 3 ∧
        3 < r.data.length + 3) := by decide +kernel

theorem witness_TheLastByteOfAFrameRunsItsRow :
    let data : List Byte := List.replicate 64 7
    let s := rx .b (0x0B :: 66 :: 0x7F :: 0xC0 :: data) base
    let t := rx .a (0xFF :: 70 :: List.replicate 70 0) base
    (rowFrame (.writeStore .b 0x7FC0 data) = some (.b, 0x0B, 0x7F :: 0xC0 :: data) ∧
      (Instr.writeStore .b 0x7FC0 data).wellFormed = true ∧ s.dsc.phase = .none ∧ (s.port .b).receiver.state = .receiving ∧
      (s.port .b).receiver.bytes = 0x0B :: BitVec.ofNat 8 66 :: 0x7F :: 0xC0 :: data) ∧
      (rowFrame (.badCommand .a 0xFF (List.replicate 70 0)) = some (.a, 0xFF, List.replicate 70 0) ∧
        (Instr.badCommand .a 0xFF (List.replicate 70 0)).wellFormed = true ∧
        (t.port .a).receiver.bytes = 0xFF :: BitVec.ofNat 8 70 :: List.replicate 70 0 ∧ t.dsc.phase = .none ∧
        (t.port .a).receiver.state = .receiving ∧
        (0 : Byte) ≠ crc8 (0xFF :: BitVec.ofNat 8 70 :: List.replicate 70 0)) ∧
      ((rx .b [0xFF] base).dsc.phase = .none ∧ ((rx .b [0xFF] base).port .b).receiver.state = .receiving ∧
        ((rx .b [0xFF] base).port .b).receiver.bytes = [0xFF] ∧ 70 < (71 : Byte).toNat) := by decide +kernel

theorem witness_AGoodFrameRestartsTheLeaseOrResumesThePort :
    ((base.port .a).state = .active ∧ base.dsc.part ≠ .loading) ∧
      ((State.reset.port .a).state = .active ∧ State.reset.dsc.part = .loading) ∧
      ((lapsed .a base).port .a).state = .lapsed := by decide +kernel

theorem witness_AFrameWithoutACommandIsAnsweredAndNothingElse :
    let s := rx .a [] base
    let bad : List Byte := [2, 0, 0]
    (s.canTake .a bad = true ∧ s.dsc.agreed = none ∧ frameWhole bad = true ∧ bad.getLast? ≠ some (crc8 bad.dropLast)) ∧
      (s.canTake .a [3, 71] = true ∧ 70 < (71 : Byte).toNat) ∧
      (s.takes .a 0x16 (List.replicate 70 0) ∧ (List.replicate 70 (0 : Byte)).length ≤ 70 ∧ 0x16 ≤ (0x16 : Byte).toNat) ∧
      (s.takes .a 0 [] ∧ (0 : Byte).toNat = 0) ∧
      (s.takes .a 3 [3, 0] ∧ lengthAccepted (3 : Byte).toNat [3, 0].length = false) := by decide +kernel

theorem witness_KeepaliveAndReadStatusReportOnly :
    (rx .a [] base).takes .a 0x02 [] ∧ (rx .a [0x01, 0] base).takes .a 0x01 [] := by decide +kernel

theorem witness_RecordsAreTakenFromTheHeadAndRefilled :
    let one := found .a 0x07 [] (filled .a 1 base)
    let full := found .a 0x07 [] ((withCtx 3 heldCtx (filled .a 16 base)).setHeldList .a [3])
    let peer := fun s => found .a 0x09 [] (lapsed .b s)
    (rx .a [] base).takes .a 0x08 [] ∧ (rx .a [] base).takes .a 0x07 [] ∧ (rx .a [] base).takes .a 0x09 [] ∧
      (found .a 0x07 [] base).queue .a = [] ∧
      (one.queue .a = [{ seq := 0, body := .attention 6 1 }] ∧ one.heldList .a = []) ∧
      ((full.queue .a).length = 16 ∧ full.heldList .a = [3] ∧ (full.ctx 3).heldRecord = some aRecord ∧
        (full.ctx 3).seg = none) ∧
      (((found .a 0x09 [] base).port .b).state = .active) ∧
      (((peer base).port .b).state = .lapsed ∧ (peer base).queue .b = []) ∧
      (((peer (filled .b 1 base)).port .b).state = .lapsed ∧
        (peer (filled .b 1 base)).queue .b = [{ seq := 0, body := .attention 6 1 }]) := by decide +kernel

theorem witness_ReadStoreAndQueryPagesReport_read :
    let b := found .a 0x0A [0x21, 0xFF, 2] base
    let c := found .a 0x0A [0x07, 0xFF, 2] base
    ((rx .a [] base).takes .a 0x0A [hiByte 0x21FF, loByte 0x21FF, 2] ∧ bytesFit 0x21FF 2 ∧
      (∀ q, ¬ (holdsByte 0x21FF 2 q ∧ ¬ b.pageOpen .a q = true))) ∧
      (¬ bytesFit 0x7FC1 64 ∧ ¬ bytesFit 0 0 ∧ ¬ bytesFit 0 65 ∧ bytesFit 0x7FC0 64) ∧
      (bytesFit 0x07FF 2 ∧ lowestFailing (holdsByte 0x07FF 2) (fun q => c.pageOpen .a q = true) 4) ∧
      lowestFailing (holdsByte 0x0800 1) (fun q => c.pageOpen .a q = true) 4 := by decide +kernel

theorem witness_ReadStoreAndQueryPagesReport_query :
    (rx .a [] base).takes .a 0x0F [0, 64] ∧ rangeFits 0 64 ∧ inRange 0 64 63 ∧
      ((found .a 0x0F [0, 64] base).page 63).uses ≤ 32 ∧
      (¬ rangeFits 63 2 ∧ ¬ rangeFits 64 1 ∧ ¬ rangeFits 0 0 ∧ rangeFits 63 1) := by decide +kernel

theorem witness_WriteStoreWritesEveryByteOrNone :
    let data : List Byte := List.replicate 64 9
    let s := rx .a [] base
    let b := s.judged .a 0x0B (hiByte 0x21C1 :: loByte 0x21C1 :: data)
    (s.takes .a 0x0B (hiByte 0x21C1 :: loByte 0x21C1 :: data) ∧ s.storeOk ∧ bytesFit 0x21C1 data.length ∧
      (∀ q, ¬ (holdsByte 0x21C1 data.length q ∧ ¬ b.pageOpen .a q = true))) ∧
      (s.takes .a 0x0B [0x7F, 0xFF, 1, 2] ∧ ¬ bytesFit 0x7FFF 2) ∧
      (s.takes .a 0x0B [0, 0] ∧ s.takes .a 0x0B (0 :: 0 :: List.replicate 68 1)) ∧
      (bytesFit 0x2400 1 ∧ lowestFailing (holdsByte 0x2400 1) (fun q => b.pageOpen .a q = true) 18) := by decide +kernel

theorem witness_ClaimAndSharePagesRetagThem :
    let b := found .b 0x0C [2, 3] base
    let c := found .a 0x0D [16, 2] base
    ((rx .b [] base).takes .b 0x0C [2, 3] ∧ rangeFits 2 3 ∧
      lowestFailing (inRange 2 3) (fun q => (b.page q).tag = .free) 3) ∧
      (rangeFits 18 46 ∧ ∀ q, inRange 18 46 q → (b.page q).tag = .free) ∧ ¬ rangeFits 18 47 ∧
      ((rx .a [] base).takes .a 0x0D [16, 2] ∧ lowestFailing (inRange 16 2) (fun q => (c.page q).tag = .portA) 17) ∧
      (∀ q, inRange 16 1 q → (c.page q).tag = .portA) := by decide +kernel

theorem witness_ReleasePagesFreesUnusedPages :
    let b := found .a 0x0E [16, 2] base
    let used := found .a 0x0E [16, 2] (base.modPage 17 (fun e => { e with uses := 1 }))
    let closed := fun (s : State) (q : PageNo) => (s.page q).tag = .portA ∨ (s.page q).tag = .shared
    ((rx .a [] base).takes .a 0x0E [16, 2] ∧ rangeFits 16 2 ∧ (∀ q, inRange 16 2 q → closed b q) ∧
      (∀ q, inRange 16 2 q → (b.page q).uses = 0)) ∧
      ((∀ q, inRange 16 2 q → closed used q) ∧ lowestFailing (inRange 16 2) (fun q => (used.page q).uses = 0) 17) ∧
      (rangeFits 16 3 ∧ lowestFailing (inRange 16 3) (closed b) 18) := by decide +kernel

theorem witness_StartQueuesACheckedOrder :
    let ready := stored 0x0600 (descBytes 0x01) base
    let marked := stored 0x0602 [4] ready
    let b := fun (s : State) => found .a 0x03 [3, 0x06, 0x00] s
    let end_ := stored 0x7FF8 (descBytes 0x03) (base.modPage 63 (fun e => { e with tag := .portA }))
    ((rx .a [] ready).takes .a 0x03 [3, hiByte 0x0600, loByte 0x0600] ∧ (b ready).dsc.part = .ready ∧
      (b ready).entry 3 ≠ none ∧ (b ready).ctx 3 = {} ∧ programOpen (b ready) .a 0x0600 ∧
      ((fetch .order .a (b ready) 0x0600).found.map (fun x => x.1.milestone)) = some false) ∧
      ((fetch .order .a (b marked) 0x0600).found.map (fun x => x.1.milestone) = some true ∧ roomIn (b marked) .a) ∧
      ¬ roomIn (b (filled .a 16 marked)) .a ∧
      ((fetch .order .a (found .a 0x03 [3, 0x7F, 0xF8] end_) 0x7FF8).found.isSome = true) ∧
      (b (inPart .unconfigured base)).dsc.part ≠ .ready ∧ (b base).entry 6 = none ∧
      ((b (withCtx 3 heldCtx base)).ctx 3).state ≠ .idle ∧ ¬ programOpen (b base) .a 0x0800 ∧
      (fetch .order .a (b base) 0x0600).found = none := by decide +kernel

theorem witness_HaltStopsAnOrderByItsState :
    let b := fun (c : Context) => found .a 0x04 [3] (withCtx 3 c base)
    let q := found .a 0x04 [3] (queued 3 base)
    ((rx .a [] base).takes .a 0x04 [3] ∧ (3 : Byte).toNat = (3 : UnitAddr).val ∧ (b {}).dsc.part = .ready ∧
      ((b {}).ctx 3).state = .idle) ∧
      (((found .a 0x04 [3] (lapsed .b (withCtx 3 { heldCtx with owner := some .b } base))).ctx 3).owner = some .b) ∧
      (((b heldCtx).ctx 3).state = .held ∧ ((b heldCtx).ctx 3).owner ≠ some .b) ∧
      (((b { order .queued inD with owner := some .b }).ctx 3).owner = some .b ∧
        ((b { order .queued inD with owner := some .b }).port .b).state = .active) ∧
      (((b { order .selecting inD with halt := some .timeout }).ctx 3).inProgress = true ∧
        ((b { order .selecting inD with halt := some .timeout }).ctx 3).halt ≠ none) ∧
      (((b (order .connected inD)).ctx 3).state = .connected ∧ ((b (order .connected inD)).ctx 3).halt = none) ∧
      (((b (order .disconnected inD)).ctx 3).state = .disconnected ∧ ((b (order .disconnected inD)).ctx 3).stopQueued = false) ∧
      ((q.ctx 3).state = .queued ∧ (q.ctx 3).owner = some .a ∧ (q.ctx 3).halt = none ∧ (q.ctx 3).seg = none ∧
        (q.ctx 3).descAddr = some 0x0600 ∧ (q.ctx 3).discard = false ∧ (3 : UnitAddr) ∉ q.ctb.stopQ ∧ roomIn q .a) ∧
      ¬ roomIn (found .a 0x04 [3] (queued 3 (filled .a 16 base))) .a ∧
      (found .a 0x04 [3] (inPart .loading base)).dsc.part ≠ .ready ∧ 32 ≤ (32 : Byte).toNat := by decide +kernel

theorem witness_QueryUnitReportsTheContext :
    let b := found .a 0x05 [3] ((withCtx 3 heldCtx base).setHeldList .a [6, 3])
    ((rx .a [] base).takes .a 0x05 [3] ∧ b.dsc.part ≠ .loading ∧ (b.ctx 3).state = .held ∧ (b.ctx 3).owner = some .a ∧
      b.heldList .a = [6] ++ (3 : UnitAddr) :: [] ∧ (3 : UnitAddr) ∉ ([6] : List UnitAddr)) ∧
      ((found .a 0x05 [31] base).ctx 31).state ≠ .held ∧ (found .a 0x05 [3] (inPart .loading base)).dsc.part = .loading := by
  decide +kernel

theorem witness_AdoptTakesOverTheLapsedPeersOrders :
    let b := fun (c : Context) => found .a 0x06 [3] (lapsed .b (withCtx 3 { c with owner := some .b } base))
    let full := fun (c : Context) => found .a 0x06 [3] (lapsed .b (withCtx 3 { c with owner := some .b } (filled .a 16 base)))
    let on := b (order .disconnected inD)
    ((rx .a [] base).takes .a 0x06 [3] ∧ on.dsc.part = .ready ∧ (on.port .b).state = .lapsed ∧ (on.ctx 3).owner = some .b ∧
      (on.ctx 3).onLink) ∧
      (((b heldCtx).ctx 3).state = .held ∧ ((b heldCtx).ctx 3).heldRecord = some aRecord ∧ ((b heldCtx).ctx 3).seg = none ∧
        roomIn (b heldCtx) .a) ∧
      (((b (order .queued inD)).ctx 3).state = .queued ∧ ((b (order .queued inD)).ctx 3).seg = none ∧
        ((b (order .queued inD)).ctx 3).descAddr = some 0x0600 ∧ (3 : UnitAddr) ∉ (b (order .queued inD)).ctb.stopQ ∧
        roomIn (b (order .queued inD)) .a) ∧
      ¬ roomIn (full heldCtx) .a ∧ ((full heldCtx).ctx 3).state = .held ∧
      ((found .a 0x06 [0xFF] base).port .b).state = .active ∧
      ((found .a 0x06 [3] (lapsed .b base)).ctx 3).owner ≠ some .b ∧ (32 ≤ (0xFE : Byte).toNat ∧ (0xFE : Byte) ≠ 0xFF) ∧
      (found .a 0x06 [3] (inPart .unconfigured base)).dsc.part ≠ .ready := by decide +kernel

/-- The contexts of a small state agree with their lists, when the parts of that claim hold. -/
theorem contexts_agree (s : State) (h1 : ∀ u, (s.ctx u).agrees u)
    (h2 : s.ctb.selectQ.Nodup ∧ (∀ u, u ∈ s.ctb.selectQ ↔ (s.ctx u).state = .queued))
    (h3 : s.ctb.stopQ.Nodup ∧ (∀ u, u ∈ s.ctb.stopQ ↔ (s.ctx u).state = .disconnected ∧ (s.ctx u).halt ≠ none) ∧
      ∀ u, u ∈ s.ctb.stopQ ↔ (s.ctx u).stopQueued = true)
    (h4 : (s.heldList .a).Nodup ∧ ∀ u, u ∈ s.heldList .a ↔ (s.ctx u).state = .held ∧ (s.ctx u).owner = some .a)
    (h5 : (s.heldList .b).Nodup ∧ ∀ u, u ∈ s.heldList .b ↔ (s.ctx u).state = .held ∧ (s.ctx u).owner = some .b)
    (h6 : s.dsc.part = .ready) (h7 : s.dsc.load = .loaded) : s.contextsOk := by
  refine ⟨h1, h2.1, h2.2, h3.1, h3.2.1, h3.2.2, ?_, fun h => absurd h6 h, fun h => ?_⟩
  · intro p; cases p <;> assumption
  · rw [h7] at h; rcases h with h | h <;> cases h

/-- Three contexts of port B: 3 QUEUED, 4 DISCONNECTED with a halt request, 5 HELD. -/
def crowd : State :=
  (withCtx 5 { heldCtx with owner := some .b, heldRecord := some { aRecord with unit := 5, owner := .b } }
    (withCtx 4 { order .disconnected inD with owner := some .b, halt := some .halt, stopQueued := true }
      (withCtx 3 { order .queued inD with owner := some .b } base))).modSelectQ (fun _ => [3])
    |>.modStopQ (fun _ => [4]) |>.setHeldList .b [5]

theorem crowd_agrees : crowd.contextsOk :=
  contexts_agree crowd (by decide +kernel) (by decide +kernel) (by decide +kernel) (by decide +kernel)
    (by decide +kernel) (by decide +kernel) (by decide +kernel)

/-- A command's frame changes no context and no list of contexts. -/
theorem judged_agrees (p : Port) (code : Byte) (s : State) (h : s.contextsOk) (hc : (found p code [] s).ctb = s.ctb)
    (hl : (found p code [] s).rcm.heldLists = s.rcm.heldLists) (hd : (found p code [] s).dsc = s.dsc) :
    (found p code [] s).contextsOk := by
  unfold State.contextsOk State.ctx State.heldList at *
  rw [hc, hl, hd]; exact h

theorem witness_AdoptAllTakesEveryContextOfThePeer :
    ((rx .a [] (lapsed .b crowd)).takes .a 0x06 [5] ∧ ((found .a 0x06 [5] (lapsed .b crowd)).port .b).state = .lapsed ∧
        ((found .a 0x06 [5] (lapsed .b crowd)).ctx 5).owner = some .b ∧ (found .a 0x06 [5] crowd).dsc.part = .ready) ∧
      (rx .a [] (lapsed .b crowd)).takes .a 0x06 [0xFF] ∧
      ((found .a 0x06 [0xFF] (lapsed .b crowd)).port .b).state = .lapsed ∧
      ((found .a 0x06 [0xFF] (lapsed .b crowd)).ownedBy .b).length = 3 ∧ crowd.contextsOk ∧
      (found .a 0x06 [0xFF] (lapsed .b crowd)).ctb = crowd.ctb ∧
      (found .a 0x06 [0xFF] (lapsed .b crowd)).rcm.heldLists = crowd.rcm.heldLists ∧
      (found .a 0x06 [0xFF] (lapsed .b crowd)).dsc = crowd.dsc :=
  ⟨by decide +kernel, by decide +kernel, by decide +kernel, by decide +kernel, crowd_agrees, by decide +kernel,
    by decide +kernel, by decide +kernel⟩

theorem witness_PortResetClearsTheIssuersPort :
    (rx .b [] crowd).takes .b 0x10 [] ∧ (found .b 0x10 [] crowd).contextsOk ∧
      ((found .b 0x10 [] crowd).ctx 3).state = .queued ∧ ((found .b 0x10 [] crowd).ctx 5).state = .held ∧
      ((found .b 0x10 [] crowd).ctx 4).onLink ∧ ((found .b 0x10 [] crowd).ctx 4).owner = some .b :=
  ⟨by decide +kernel, judged_agrees .b 0x10 crowd crowd_agrees (by decide +kernel) (by decide +kernel) (by decide +kernel),
    by decide +kernel, by decide +kernel, by decide +kernel, by decide +kernel⟩

theorem witness_LinkResetEndsEveryOrderInProgress :
    (rx .a [] crowd).takes .a 0x11 [] ∧ (found .a 0x11 [] crowd).dsc.part ≠ .loading ∧
      (found .a 0x11 [] crowd).contextsOk ∧ (found .a 0x11 [] crowd).useCountsOk ∧ (found .a 0x11 [] (inPart .loading base)).dsc.part = .loading :=
  ⟨by decide +kernel, by decide +kernel,
    judged_agrees .a 0x11 crowd crowd_agrees (by decide +kernel) (by decide +kernel) (by decide +kernel),
    by unfold State.useCountsOk; decide +kernel, by decide +kernel⟩

theorem witness_TheStagingDirectoryIsWrittenAndTheActiveOneRead :
    let b := found .a 0x13 [31, 31, 1, 1, 255] base
    let r := found .a 0x15 [2] base
    ((rx .a [] base).takes .a 0x13 [31, 31, 1, 1, 255] ∧ b.dsc.part ≠ .loading ∧
      (31 : Byte).toNat = (31 : Fin 32).val ∧ (1 : Byte).toNat ≤ 1) ∧
      (32 ≤ (32 : Byte).toNat ∧ 2 ≤ (2 : Byte).toNat) ∧
      ((rx .a [] base).takes .a 0x15 [2] ∧ r.dsc.part ≠ .loading ∧ (2 : Byte).toNat < 32 ∧ r.dsc.active = some dir ∧
        (dir.entries[(2 : Byte).toNat]?).isSome = true) ∧
      dir.entries.length ≤ (3 : Byte).toNat ∧ (found .a 0x15 [0] (inPart .loading base)).dsc.part = .loading := by
  decide +kernel

/-- Staging entries 0 and 1 written, 2 written with the unit of entry 0, and the rest empty. -/
def staging : State :=
  base.modDsc (fun d =>
    { d with
      staging := ((d.staging.set 0 (some { unit := 9, mode := .long, home := .a, silence := 0 })).set 1
          (some { unit := 8, mode := .short, home := .b, silence := 1 })).set 2
          (some { unit := 9, mode := .short, home := .a, silence := 2 }) })

theorem witness_CommitDirectoryActivatesACheckedDirectory :
    let b := found .a 0x14 [2, 255] staging
    let es : List DirEntry := [{ unit := 9, mode := .long, home := .a, silence := 0 },
      { unit := 8, mode := .short, home := .b, silence := 1 }]
    ((rx .a [] staging).takes .a 0x14 [2, 255] ∧ b.dsc.part ≠ .loading ∧ (255 : Byte) ≠ 0 ∧
      es.length = (2 : Byte).toNat ∧ (∀ k : Fin 32, k.val < 2 → b.dsc.staging[k.val] = es[k.val]?) ∧
      (es.map DirEntry.unit).Nodup ∧ (∀ u, (b.ctx u).state = .idle) ∧ b.rcm.deferred = []) ∧
      (32 < (33 : Byte).toNat ∧ (∃ u, ((found .a 0x14 [2, 255] (queued 3 staging)).ctx u).state ≠ .idle)) ∧
      (b.dsc.staging[(3 : Fin 32).val] = none ∧ (3 : Fin 32).val < (4 : Byte).toNat) ∧
      (b.dsc.staging[(2 : Fin 32).val].map DirEntry.unit = b.dsc.staging[(0 : Fin 32).val].map DirEntry.unit ∧
        b.dsc.staging[(1 : Fin 32).val] = es[1]?) ∧
      (found .a 0x14 [0, 1] (inPart .loading base)).dsc.part = .loading := by decide +kernel

theorem witness_PartResetAgreesOrStampsTheRequest :
    let b := fun (s : State) => found .a 0x12 [] s
    let stamped := base.modPort .b (fun x => { x with stamp := .set (.running 7) })
    ((rx .a [] base).takes .a 0x12 [] ∧ (b base).dsc.part ≠ .loading ∧ ((b base).port .b).state = .active ∧
      ((b base).port .b).stamp = .void) ∧ ((b stamped).port .b).stamp ≠ .void ∧
      ((b (lapsed .b base)).port .b).state = .lapsed ∧ (b (inPart .loading base)).dsc.part = .loading := by decide +kernel

theorem witness_NoCommandRunsInTheAgreementWindow :
    let s := rx .b [] (base.modDsc (fun d => { d with agreed := some .a }))
    rowFrame (.start .b 3 0x0600) = some (.b, 0x03, [3, 0x06, 0x00]) ∧ (Instr.start .b 3 0x0600).wellFormed = true ∧
      s.canTake .b (commandFrame 0x03 [3, 0x06, 0x00]) = true ∧ s.dsc.agreed ≠ none := by decide +kernel

theorem witness_ThePortTimersLapseThePortAndVoidTheStamp :
    let s := base.modPort .a (fun x => { x with lease := .running 1, stamp := .set (.running 1), lapseCount := 255 })
    (s.port .a).lease.runs = true ∧ (s.port .a).state = .active ∧ (s.port .a).stamp = .set (.running 1) ∧
      (base.port .a).lapseCount = 0 := by decide +kernel

/-! ### Witnesses of the link -/

theorem witness_HaltSelectionsAndRecallsAreGrantedFirst :
    let s := stopping 3 base
    let r := filled .b 16 (base.setDeferred [4, 3])
    (s.lnk.link = .opened ∧ s.ctb.stopQ = 3 :: []) ∧ (base.ctb.stopQ = [] ∧ State.reset.lnk.link ≠ .opened) ∧
      (r.lnk.link = .opened ∧ r.ctb.stopQ = [] ∧ r.rcm.deferred = [4] ++ (3 : UnitAddr) :: [] ∧
        (r.target 4 = some .b ∧ ¬ roomIn r .b) ∧ (r.target 3 = some .a ∧ roomIn r .a)) ∧
      base.rcm.deferred = [] := by decide +kernel

theorem witness_PollsAndSelectionsAreGrantedInTurn :
    let p := base.modLnk (fun l => { l with srqSampled := true })
    let q := queued 3 (p.modLnk (fun l => { l with grantMem := some .poll }))
    (p.lnk.link = .opened ∧ p.ctb.stopQ = [] ∧ p.rcm.deferred = [] ∧ pollWanted p) ∧
      (q.lnk.link = .opened ∧ q.ctb.stopQ = [] ∧ q.rcm.deferred = [] ∧ ¬ pollWanted q ∧ q.ctb.selectQ = 3 :: [] ∧
        (q.ctx 3).desc = some inD ∧ (q.entry 3).isSome = true) ∧
      (¬ pollWanted base ∧ base.ctb.selectQ = [] ∧ (stopping 3 base).ctb.stopQ ≠ []) := by decide +kernel

/-- An exchange whose frame is being sent. -/
def sendingEx (e : Exchange) (s : State) : State :=
  s.modLnk (fun l => { l with link := .exchange, exchange := some { e with sending := true } })

theorem witness_AFrameSentStartsTheReplyTimerOrEndsTheExchange :
    let tak := exch .status (some 3) (.tak 3) (some .poll)
    let s := sendingEx tak base
    let long := sendingEx (exch .dataIn (some 3) (.ack 3) none) ((withCtx 3 (order .connected inD) base).modLnk (fun l =>
      { l with conn := some 3 }))
    let short := sendingEx (exch .dataIn (some 4) (.ack 4) (some .poll)) (withCtx 4 { order .connected inD with halt := some .halt } base)
    let recalled := sendingEx (exch .status (some 4) (.tak 4) (some .recall)) (withCtx 4 (order .disconnected inD) base)
    let two := { exch .request (some 3) (.stp .abandon 31) none with more := [.stp .abandon 3] }
    ((sendingEx selEx base).lnk.exchange = some { selEx with sending := true } ∧ selEx.more = [] ∧
      selEx.frame = .sel 3 0x33 .long .input ∧ (sendingEx selEx base).lnk.reception = .none) ∧
      ((datEx [1]).frame = .dat 3 [1] ∧ pollEx.frame = .poll ∧ rclEx.frame = .rcl 3 ∧
        (exch .request (some 3) (.nak 3) none).frame = .nak 3) ∧
      (long.lnk.link = .exchange ∧ long.lnk.conn = some 3) ∧
      (s.lnk.conn = none ∧ tak.unit = some 3 ∧ (s.ctx 3).state ≠ .connected ∧ tak.opener ≠ some .recall) ∧
      ((sendingEx two base).lnk.exchange = some { two with sending := true } ∧ two.more = .stp .abandon 3 :: []) ∧
      (short.lnk.conn = none ∧ (short.ctx 4).state = .connected ∧
        (short.ctx 4).stopQueued = false ∧ (CtlFrame.ack 4).callsForReply = false ∧ (short.ctx 4).halt ≠ none) ∧
      (recalled.lnk.conn = none ∧ (recalled.ctx 4).state = .disconnected ∧ (CtlFrame.tak 4).callsForReply = false) ∧
      (s.dsc.phase = .none ∧ (s.modLnk (fun l => { l with reception := .ignored })).lnk.reception ≠ .none) := by
  decide +kernel

theorem witness_AFrameIsHeardOnlyWhileATimerRuns :
    (awaiting pollEx base).lnk.replyTimer.runs = true ∧ (held 3 (order .connected inD) base).lnk.gapTimer.runs = true ∧
      (base.lnk.replyTimer = .stopped ∧ base.lnk.gapTimer = .stopped ∧ base.lnk.reception ≠ .awaited) ∧
      ((awaiting pollEx base).dsc.phase = .none ∧ (next .powerOn base).dsc.phase ≠ .none) := by decide +kernel

theorem witness_TheLinkTimersRetryEndOrHaltAnOrder :
    let s := awaiting { selEx with tries := 2 } (withCtx 3 (order .selecting inD) base)
    let g := held 3 (order .connected inD) base
    let d := withCtx 4 { order .disconnected inD with silence := .running 1 } base
    (s.lnk.exchange = some { selEx with tries := 2 } ∧ s.lnk.replyTimer.runs = true ∧ 2 < 3 ∧ selEx.unit = some 3 ∧
      selEx.kind = .selection) ∧ pollEx.kind = .poll ∧
      ((exch .request (some 3) (.nak 3) none).tries < 2 ∧ (exch .request (some 3) (.nak 3) none).kind = .request) ∧
      (g.lnk.gapTimer.runs = true ∧ g.lnk.conn = some 3 ∧ (g.ctx 3).state = .connected ∧
        (g.ctx 3).descAddr = some 0x0600 ∧ (g.ctx 3).owner = some .a) ∧
      ((d.ctx 4).silence.runs = true ∧ (d.ctx 4).state = .disconnected ∧ (d.ctx 4).halt = none ∧
        (d.ctx 4).stopQueued = false) ∧
      (((withCtx 4 { order .disconnected inD with silence := .running 1, halt := some .halt, stopQueued := true } base).ctx
        4).stopQueued = true) := by decide +kernel

theorem witness_AnEmptyRspAcceptsASelection :
    let s := fun (d : Descriptor) => awaiting selEx (withCtx 3 (order .selecting d) base)
    let t := awaiting selEx4 (withCtx 4 { order .selecting inD with halt := some .halt } base)
    let short := { inD with link := .nextSegment, count := 16 }
    ((s inD).awaitsReply selEx ∧ selEx.kind = .selection ∧ selEx.unit = some 3 ∧ names 3 3 ∧ (0xE0 : Byte).toNat % 32 = 0 ∧
      ((s inD).ctx 3).state = .selecting ∧ (s inD).mode 3 = .long ∧ ((s inD).ctx 3).owner = some .a ∧
      ((s inD).ctx 3).desc = some inD ∧ ((s inD).ctx 3).seg = none ∧ (s inD).pageOpen .a (pageOf inD.addr) = true ∧
      inD.link ≠ .nextSegment) ∧ ((s ctrlD).ctx 3).desc = some ctrlD ∧
      ((s short).pageOpen .a (pageOf short.addr) = true ∧ short.kind = .input ∧ short.link = .nextSegment ∧
        ((s short).ctx 3).lookahead = .absent ∧ ((s short).ctx 3).halt = none ∧ short.count.toNat ≤ 16 ∧
        ((s short).ctx 3).descAddr = some 0x0600) ∧
      (s { outD with addr := 0x2400 }).pageOpen .a (pageOf 0x2400) = false ∧
      (t.awaitsReply selEx4 ∧ names 4 4 ∧ (t.ctx 4).state = .selecting ∧ t.mode 4 = .short ∧
        (t.ctx 4).stopQueued = false) := by decide +kernel

theorem witness_ARefusalOrAHaltSelectionEndsTheOrder :
    let s := awaiting selEx (withCtx 3 (order .selecting inD) base)
    let h := awaiting haltEx (withCtx 3 { order .selecting inD with halt := some .timeout, seg := some (seg 0) } base)
    (s.awaitsReply selEx ∧ names 3 3 ∧ (0x21 : Byte).toNat % 32 ≠ 0 ∧ (s.ctx 3).state = .selecting ∧
      (s.ctx 3).descAddr = some 0x0600 ∧ (s.ctx 3).owner = some .a) ∧
      (h.awaitsReply haltEx ∧ haltEx.kind = .haltSelection ∧ haltEx.unit = some 3 ∧ (h.ctx 3).desc = some inD ∧
        (h.ctx 3).owner = some .a) := by decide +kernel

/-- A SHORT-mode order of unit 4, DISCONNECTED, its unit polled. -/
def polled (d : Descriptor) : State := awaiting pollEx (withCtx 4 (order .disconnected d) base)

/-- A LONG input order with a segment. -/
def inHold (d : Descriptor) (g : Segment) (la : Lookahead) (halt : Option HaltCause) : State :=
  held 3 { order .connected d with seg := some g, lookahead := la, halt := halt } base

theorem witness_InputBytesArePlacedUpToTheSegmentsEnd :
    let last : Segment := { addr := 0x21F0, remaining := 16, page := 16 }
    let s := inHold { inD with discard := true } last .absent none
    let t := inHold { inD with link := .nextSegment } last .absent none
    let halted := inHold inD (seg 15) .absent (some .halt)
    let spill := inHold inD (seg 0) .absent none
    let failed := inHold { inD with link := .nextSegment } (seg 15) .faulted none
    let data : List Byte := List.replicate 16 5
    (s.storeOk ∧ s.hears 3 ∧ names 3 3 ∧ 1 ≤ data.length ∧ data.length ≤ 16 ∧ data.length ≤ last.remaining ∧ last.fits ∧
      ((s.begun 3).ctx 3).desc = some { inD with discard := true } ∧ ((s.begun 3).ctx 3).seg = some last ∧
      ({ inD with discard := true } : Descriptor).link ≠ .nextSegment) ∧
      (halted.hears 3 ∧ ((halted.begun 3).ctx 3).halt ≠ none ∧ (seg 15).remaining < data.length ∧ (seg 15).fits ∧
        ((halted.begun 3).ctx 3).seg = some (seg 15)) ∧
      (spill.hears 3 ∧ (seg 0).remaining < [(1 : Byte)].length ∧ (seg 0).fits ∧ inD.link ≠ .nextSegment ∧
        ((spill.begun 3).ctx 3).lookahead = .absent ∧ ((spill.begun 3).ctx 3).halt = none) ∧
      (t.storeOk ∧ t.hears 3 ∧ ((t.begun 3).ctx 3).owner = some .a ∧ ((t.begun 3).ctx 3).descAddr = some 0x0600 ∧
        ((t.begun 3).ctx 3).halt = none ∧ ((t.begun 3).ctx 3).lookahead = .absent ∧ last.remaining - data.length ≤ 16) ∧
      (failed.hears 3 ∧ ((failed.begun 3).ctx 3).lookahead = .faulted ∧ ((failed.begun 3).ctx 3).halt = none) ∧
      ((polled { inD with addr := 0x2400 }).hears 4 ∧ (((polled { inD with addr := 0x2400 }).begun 4).ctx 4).seg = none) ∧
      ((polled inD).hears 4 ∧ names 4 4 ∧ (((polled inD).begun 4).ctx 4).seg = some { addr := 0x2000, remaining := 20, page := 16 } ∧
        (((polled inD).begun 4).page 16).uses = 1) := by decide +kernel

theorem witness_AnInputSwitchMovesToTheLookahead :
    let d := { inD with link := .nextSegment }
    let s := inHold d (seg 1) (.present segD 0x0608) none
    let x := { segD with link := .nextSegment, count := 3 }
    let m := inHold d (seg 1) (.present x 0x0608) none
    (s.storeOk ∧ s.hears 3 ∧ names 3 3 ∧ ((s.begun 3).ctx 3).owner = some .a ∧ ((s.begun 3).ctx 3).desc = some d ∧
      ((s.begun 3).ctx 3).seg = some (seg 1) ∧ (seg 1).remaining < (List.replicate 16 (5 : Byte)).length ∧ (seg 1).fits ∧
      ((s.begun 3).ctx 3).halt = none ∧ ((s.begun 3).ctx 3).lookahead = .present segD 0x0608 ∧ segD.areaFits ∧
      segD.kind = .seg ∧ (s.begun 3).pageOpen .a (pageOf segD.addr) = true ∧ 16 - (seg 1).remaining ≤ segD.count.toNat ∧
      segD.link ≠ .nextSegment) ∧
      (m.hears 3 ∧ x.areaFits ∧ x.count.toNat < 16 - (seg 1).remaining ∧
        ((m.begun 3).ctx 3).lookahead = .present x 0x0608 ∧ (m.begun 3).pageOpen .a (pageOf x.addr) = true) ∧
      ((inHold d (seg 1) (.present { segD with addr := 0x2400 } 0x0608) none).begun 3).pageOpen .a (pageOf 0x2400) = false := by
  decide +kernel

/-- The rest of a frame after a switch does what a frame of its own does: three bytes of sixteen reach a second segment of two and
overrun it. -/
theorem test_rest_of_a_frame_after_a_switch :
    let s := inHold { inD with link := .nextSegment } (seg 13) (.present { segD with count := 2 } 0x0608) none
    let t := next (.reqInData 3 false (List.replicate 16 7)) s
    (t.ctx 3).seg = some { addr := 0x2202, remaining := 0, page := 17 } ∧ (t.ctx 3).conds = { length := true } ∧
      t.byteAt 0x2201 = 7 ∧ t.byteAt 0x2202 = 0 ∧ (t.page 17).uses = 1 := by decide +kernel

theorem witness_OutputBytesAreReadWhenAskedFor :
    let s := held 3 { order .connected outD with seg := some (seg 1) } base
    let t := held 3 { order .connected outD with seg := some (seg 17), halt := some .adopt } base
    let shut := polled { outD with addr := 0x2400 }
    let q := { exch .request (some 3) (.nak 3) none with corrupt := true }
    let r := (awaiting q s).modLnk (fun l => { l with gapTimer := .stopped })
    (s.hears 3 ∧ names 3 3 ∧ ((s.begun 3).ctx 3).desc = some outD ∧ outD.kind = .output ∧
      ((s.begun 3).ctx 3).seg = some (seg 1) ∧ 0 < (seg 1).remaining ∧ (seg 1).fits ∧ ((s.begun 3).ctx 3).halt = none ∧
      s.lnk.link = .hold) ∧
      (r.hears 3 ∧ r.awaitsReply q ∧ q.kind = .request ∧ ((r.begun 3).ctx 3).seg = some (seg 1)) ∧
      ((polled outD).hears 4 ∧ (polled outD).awaitsReply pollEx ∧
        (((polled outD).begun 4).ctx 4).seg = some { addr := 0x2000, remaining := 20, page := 16 }) ∧
      (t.hears 3 ∧ ((t.begun 3).ctx 3).halt ≠ none) ∧ (shut.hears 4 ∧ ((shut.begun 4).ctx 4).seg = none) := by
  decide +kernel

theorem witness_AnExhaustedOutputSegmentStopsOrSwitches :
    let s := fun (d : Descriptor) (m : State) => held 3 { order .connected d with seg := some (seg 0) } m
    let d := { outD with link := .nextSegment }
    let open_ := s d (stored 0x0608 (descBytes 0x04) base)
    let shut := s d (stored 0x0608 [0x04, 0, 0, 0, 0x24, 0, 0, 40] base)
    ((s outD base).hears 3 ∧ names 3 3 ∧ (((s outD base).begun 3).ctx 3).owner = some .a ∧
      (((s outD base).begun 3).ctx 3).seg = some (seg 0) ∧ (((s outD base).begun 3).ctx 3).descAddr = some 0x0600 ∧ (seg 0).remaining = 0 ∧ outD.link ≠ .nextSegment) ∧
      (d.link = .nextSegment ∧ (fetch (.segment .output) .a (s d base) 0x0608).found = none) ∧
      (open_.hears 3 ∧ (fetch (.segment .output) .a open_ 0x0608).found.map (fun x => open_.pageOpen .a (pageOf x.1.addr)) =
        some true) ∧
      (fetch (.segment .output) .a shut 0x0608).found.map (fun x => shut.pageOpen .a (pageOf x.1.addr)) = some false := by
  decide +kernel

theorem witness_AnAckAdvancesTheSegmentAndANakResends :
    let e := { datEx [1, 2] with tries := 2 }
    let s := awaiting e ((withCtx 3 { order .connected outD with seg := some (seg 2) } base).modLnk (fun l =>
      { l with conn := some 3 }))
    let short := { datEx [1, 2] with opener := some .poll }
    let p := awaiting short (withCtx 3 { order .connected outD with seg := some (seg 2) } base)
    (s.awaitsReply e ∧ e.kind = .dataOut ∧ e.unit = some 3 ∧ e.frame = .dat 3 [1, 2] ∧ names 3 3 ∧
      (s.ctx 3).seg = some (seg 2) ∧ s.lnk.conn = some 3 ∧ e.tries < 3) ∧
      (p.awaitsReply short ∧ p.lnk.conn = none ∧ short.opener = some .poll ∧ (p.ctx 3).state = .connected ∧
        (p.ctx 3).stopQueued = false) := by decide +kernel

theorem witness_AnEndingStatusEndsTheOrderWithItsRecord_held :
    let full := held 3 (order .connected ctrlD) (filled .a 16 base)
    let dropped := held 3 { order .connected ctrlD with halt := some .portReset, discard := true } base
    full.hears 3 ∧ names 3 3 ∧ (full.ctx 3).owner = some .a ∧ ((full.served 3).ctx 3).discard = false ∧
      ¬ roomIn (full.served 3) .a ∧ ctrlD.link ≠ .nextOrder ∧ (dropped.hears 3 ∧ ((dropped.served 3).ctx 3).discard = true) := by
  decide +kernel

theorem witness_AnEndingStatusEndsTheOrderWithItsRecord :
    let chain : Descriptor := { inD with link := .nextOrder }
    let s := held 3 { order .connected inD with seg := some (seg 1) } base
    (s.hears 3 ∧ names 3 3 ∧ (s.ctx 3).desc = some inD ∧ (s.ctx 3).descAddr = some 0x0600 ∧ (s.ctx 3).owner = some .a ∧
      roomIn (s.served 3) .a ∧ inD.link ≠ .nextOrder) ∧
      lengthChecked (order .connected chain) chain ≠ {} ∧ (0x20 : Byte).toNat % 32 ≠ 1 ∧
      ((polled outD).hears 4 ∧ names 4 4 ∧ ((polled outD).ctx 4).owner = some .a ∧ outD.link ≠ .nextOrder) := by
  decide +kernel

theorem witness_AChainContinuesToTheNextOrder :
    let d := { inD with link := .nextOrder }
    let s := fun (m : State) => held 3 { order .connected d with seg := some (seg 0) } m
    let found_ := s (stored 0x0608 (descBytes 0x01) base)
    (found_.hears 3 ∧ names 3 3 ∧ d.link = .nextOrder ∧ lengthChecked (found_.ctx 3) d = {} ∧ (found_.ctx 3).halt = none ∧
      (found_.ctx 3).owner = some .a ∧ (0xE1 : Byte).toNat % 32 = 1 ∧
      (fetch .order .a found_ (0x0600 + 8)).found.isSome = true) ∧
      ((fetch .order .a (s base) (0x0600 + 8)).found = none ∧ (s base).hears 3 ∧
        (polled { inD with link := .nextOrder, lengthOk := true }).hears 4) := by decide +kernel

theorem witness_AFailedExchangeEndsTheOrderWithItsCondition :
    let e := fun (c : Bool) => { selEx with tries := 3, corrupt := c }
    let s := fun (c : Bool) => awaiting (e c) (withCtx 3 (order .selecting inD) base)
    let dat := { datEx [1] with tries := 3 }
    let out := awaiting dat ((withCtx 3 { order .connected outD with seg := some (seg 1) } base).modLnk (fun l =>
      { l with conn := some 3 }))
    let req := { exch .request (some 3) (.nak 3) none with tries := 2, corrupt := true }
    let again := awaiting req ((withCtx 3 (order .connected inD) base).modLnk (fun l => { l with conn := some 3 }))
    let t := held 3 (order .connected ctrlD) base
    (failsTry .replyTimerExpiry (e false) (s false) ∧ failsTry .corruptFrame (e false) (s false) ∧
      failsTry .replyTimerExpiry (e true) (s true) ∧ ((s false).ctx 3).owner = some .a ∧
      ((s false).ctx 3).descAddr = some 0x0600 ∧ ((s false).ctx 3).inProgress = true) ∧
      (failsTry (.nak 3) dat out ∧ failsTry .corruptFrame dat out ∧ dat.kind = .dataOut ∧ (out.ctx 3).inProgress = true) ∧
      (failsTry .corruptFrame req again ∧ failsTry .replyTimerExpiry req again ∧ req.kind = .request) ∧
      (linkFrame (.rsp 4 0) = some (.rsp 4 0) ∧ linkFrame (.reqInData 3 true [1]) = some (.req 3 true (.inData [1])) ∧
        (s false).awaitsReply (e false) ∧ out.awaitsReply dat ∧ out.entry 4 ≠ none) ∧
      (again.long 3 ∧ t.long 3 ∧ t.entry 4 ≠ none) ∧
      (t.hears 3 ∧ names 3 3 ∧ (t.ctx 3).desc = some ctrlD ∧ (t.ctx 3).owner = some .a ∧ ctrlD.kind ≠ .input ∧
        ctrlD.kind ≠ .output) ∧ ((polled outD).hears 4 ∧ outD.kind ≠ .input) := by
  decide +kernel

/-- A first data REQ of the wrong kind of a SHORT-mode order makes the first segment current before the order ends: its count is the
residual, and its page is in use no longer. -/
theorem test_wrong_kind_counts_the_first_segment :
    let t := next (.reqInData 4 false [1]) (polled outD)
    ((t.queue .a).head?.map Record.body =
        some (.completion { unit := 4, owner := .a, lastDesc := 0x0600, resume := 0x0608, residual := 20,
                            conds := { protocol := true }, status := none })) ∧ (t.page 16).uses = 0 := by decide +kernel

/-- A corrupt reply to the third SEL or DAT stays noted in the exchange while STP is sent (R70). -/
theorem test_corrupt_last_reply_stays_noted :
    let s := awaiting { selEx with tries := 3 } (withCtx 3 (order .selecting inD) base)
    let t := awaiting { datEx [1] with tries := 3 } (held 3 { order .connected outD with seg := some (seg 1) } base)
    ((next .corruptFrame s).lnk.exchange.map (fun e => (e.frame, e.corrupt)) = some (.stp .abandon 3, true)) ∧
      ((next .corruptFrame t).lnk.exchange.map (fun e => (e.frame, e.corrupt)) = some (.stp .abandon 3, true)) := by
  decide +kernel

theorem witness_ARepeatIsAnsweredFromTheAnswerMemory :
    let kept := fun (k : AnsweredKind) (s : State) => s.setAnswer 3 (some { kind := k, frame := .ack 3 })
    let s := fun (k : AnsweredKind) => kept k (held 3 (order .connected inD) base)
    let p := kept .status (awaiting pollEx base)
    let r := kept .status (awaiting rclEx (base.setDeferred [3]))
    ((s .inData).long 3 ∧ names 3 3 ∧ (List.replicate 16 (1 : Byte)).length ≤ 16 ∧
      (s .inData).answer 3 = some { kind := .inData, frame := .ack 3 }) ∧
      ((s .status).long 3 ∧ (s .status).answer 3 = some { kind := .status, frame := .ack 3 }) ∧
      (p.polls ∧ p.answer 3 = some { kind := .status, frame := .ack 3 }) ∧
      (r.awaitsReply rclEx ∧ rclEx.kind = .recall ∧ rclEx.unit = some 3 ∧ r.answer 3 = some { kind := .status, frame := .ack 3 }) ∧
      (base.answer 3 = none ∧ ((s .status).answer 3).map Answer.kind ≠ some .inData) := by decide +kernel

theorem witness_ACorruptFrameIsAnsweredNak :
    let req := exch .request (some 3) (.nak 3) none
    let again := awaiting req ((withCtx 3 (order .connected inD) base).modLnk (fun l => { l with conn := some 3 }))
    let e := { selEx with tries := 2 }
    (held 3 (order .connected inD) base).holds 3 ∧ (awaiting pollEx base).awaitsReply pollEx ∧ pollEx.kind = .poll ∧
      (again.awaitsReply req ∧ req.kind = .request ∧ req.tries < 2) ∧
      ((awaiting e (withCtx 3 (order .selecting inD) base)).awaitsReply e ∧ e.tries < 3 ∧ e.kind = .selection) := by
  decide +kernel

theorem witness_UnsolicitedStatusGoesToItsTargetOrIsDeferred :
    let s := awaiting pollEx base
    let full := awaiting pollEx (filled .a 16 base)
    let listed := awaiting pollEx (base.setDeferred [3])
    (s.awaitsReply pollEx ∧ pollEx.kind = .poll ∧ names 3 3 ∧ s.entry 3 ≠ none ∧ s.target 3 = some .a ∧
      (s.ctx 3).state = .idle ∧ (3 : UnitAddr) ∉ s.rcm.deferred ∧ roomIn s .a) ∧
      (full.awaitsReply pollEx ∧ full.target 3 = some .a ∧ (3 : UnitAddr) ∉ full.rcm.deferred ∧ ¬ roomIn full .a) ∧
      (listed.awaitsReply pollEx ∧ (3 : UnitAddr) ∈ listed.rcm.deferred) ∧
      ((heldCtx.state ≠ .idle) ∧ (s.port .a).state = .active ∧ ((lapsed .a base).port .a).state = .lapsed) := by
  decide +kernel

theorem witness_AStrayUnitIsAbandonedAndReported :
    let hold := held 3 (order .connected inD) base
    let out := awaiting (datEx [1]) ((withCtx 3 { order .connected outD with seg := some (seg 1) } base).modLnk (fun l =>
      { l with conn := some 3 }))
    ((awaiting pollEx base).polls ∧ names 31 31 ∧ (awaiting pollEx base).entry 31 = none) ∧
      (linkFrame (.reqInData 31 false [1]) = some (.req 31 false (.inData [1])) ∧
        linkFrame (.reqOutData 3 false) = some (.req 3 false .outData) ∧ (awaiting pollEx base).entry 3 ≠ none ∧
        ((awaiting pollEx base).ctx 3).state = .idle) ∧
      (linkFrame (.reqStatus 31 true 1) = some (.req 31 true (.status 1)) ∧ hold.entry 31 = none ∧
        (hold.ctx 3).owner = some .a ∧ (hold.ctx 3).descAddr = some 0x0600 ∧ (hold.ctx 3).state = .connected ∧
        hold.lnk.conn = some 3 ∧ hold.long 3) ∧
      (out.awaitsReply (datEx [1]) ∧ (datEx [1]).kind = .dataOut ∧ (datEx [1]).unit = some 3 ∧ out.lnk.conn = some 3 ∧
        ¬ out.long 3) := by
  decide +kernel

/-- A stray REQ in a LONG connection: the record of the order, then the notice, and STP to the stray first (logs 8 and 30). -/
theorem test_stray_in_a_long_connection :
    let t := next (.reqOutData 31 false) (held 3 (order .connected inD) base)
    (t.queue .a).map Record.body =
        [.completion { unit := 3, owner := .a, lastDesc := 0x0600, resume := 0x0608, residual := 0,
                       conds := { protocol := true }, status := none }, .notice .strayUnit (some 31)] ∧
      (t.lnk.exchange.map (fun e => e.frame :: e.more)) = some [.stp .abandon 31, .stp .abandon 3] := by decide +kernel

theorem witness_ARecallIsAnsweredOrLost :
    let s := awaiting rclEx (base.setDeferred [4, 3])
    let full := awaiting rclEx (filled .a 16 (base.setDeferred [3, 4]))
    let e := { rclEx with tries := 3 }
    let lost := awaiting e (base.setDeferred [3])
    let out := awaiting e (withCtx 3 (order .disconnected inD) (base.setDeferred [3]))
    (s.awaitsReply rclEx ∧ rclEx.kind = .recall ∧ rclEx.unit = some 3 ∧ names 3 3 ∧ s.target 3 = some .a ∧ roomIn s .a) ∧
      (full.awaitsReply rclEx ∧ full.target 3 = some .a ∧ ¬ roomIn full .a) ∧
      (failsTry .replyTimerExpiry e lost ∧ failsTry .corruptFrame e lost ∧ failsTry .replyTimerExpiry e out ∧ e.kind = .recall) ∧
      (linkFrame (.ack 3) = some (.ack 3) ∧ s.awaitsReply rclEx ∧ (s.ctx 3).state ≠ .disconnected) ∧
      (linkFrame (.reqStatus 4 false 1) = some (.req 4 false (.status 1)) ∧ out.awaitsReply e ∧ (out.ctx 3).state = .disconnected ∧
        (out.ctx 3).owner = some .a ∧ (out.ctx 3).descAddr = some 0x0600) := by decide +kernel

theorem witness_AFetchYieldsOnlyCheckedDescriptors :
    let jumps := stored 0x0600 ([0x05, 0, 0, 0, 0x06, 0x08, 0, 0] ++ descBytes 0x01) base
    (fetch .order .a jumps 0x0600).found.map Prod.snd = some 0x0608 ∧ (fetch .order .a jumps 0x0600).jumps = 1 ∧
      (fetch (.segment .input) .a (stored 0x0608 [0x24, 0, 1, 0, 0x22, 0, 0, 1] base) 0x0608).found.map (fun x => x.1.discard) =
        some true := by decide +kernel

theorem witness_UnitFramesAreReadAsTheirWireBytes :
    goodUnitFrame (.req 31 true (.inData (List.replicate 16 0xD5))) ∧ goodUnitFrame (.rsp 0 31) ∧
      classifyFrame (UnitFrame.nak 31).wire = .nak 31 ∧ UnitFrame.nak 31 ≠ .corrupt :=
  ⟨by simp [goodUnitFrame], trivial, by decide +kernel, by decide⟩

/-- A state that meets every invariant, with an order on the link, and a step it can take. -/
def busy : State :=
  { (withCtx 3 { order .connected inD with seg := some (seg 20) } (base.modPage 16 (fun e => { e with uses := 1 }))).modLnk
      (fun l => { l with link := .hold, conn := some 3, gapTimer := .running Config.gapTimeout }) with
    pending := [.reqInData 3 false [1, 2, 3]] }

theorem witness_the_invariants_and_a_step :
    busy.storeOk ∧ busy.useCountsOk ∧ busy.queuesOk ∧ busy.contextsOk ∧ busy.linkOk ∧ busy.segmentsOk ∧ busy.leasesOk ∧ busy.listsOk ∧
      (∃ t, step busy = .next t ∧ (t.ctx 3).seg = some { addr := 0x2003, remaining := 17, page := 16 }) := by
  refine ⟨by decide +kernel, by unfold State.useCountsOk; decide +kernel, ?_,
    contexts_agree busy (by decide +kernel) (by decide +kernel) (by decide +kernel) (by decide +kernel)
      (by decide +kernel) (by decide +kernel) (by decide +kernel), ?_, ?_, ?_, ?_, _, rfl, by decide +kernel⟩
  · intro p; cases p <;> (unfold numbered; decide +kernel)
  · have hs : ∀ u, (busy.ctx u).state ≠ .selecting := by decide +kernel
    have hc : ∀ u, ((busy.ctx u).state = .connected → u = 3) ∧ (busy.lnk.conn = some u → u = 3) := by decide +kernel
    refine ⟨fun u h => absurd h (hs u), by decide +kernel, fun u h => ?_, fun u h => ?_, by decide +kernel, by decide +kernel,
      by decide +kernel⟩
    · rw [(hc u).1 h]; exact Or.inl (by decide +kernel)
    · rw [(hc u).2 h]; exact ⟨by decide +kernel, Or.inl (by decide +kernel)⟩
  · refine ⟨by decide +kernel, by decide +kernel, fun u d a h => ?_, by decide +kernel, by decide +kernel,
      by decide +kernel⟩
    have hl : ∀ u, (busy.ctx u).lookahead = .absent := by decide +kernel
    rw [hl] at h; cases h
  · intro p; cases p <;> decide +kernel
  · refine ⟨by decide +kernel, ?_⟩; intro p; cases p <;> decide +kernel

/-- A LONG selection of unit 3 accepted: the link invariant's premises hold before it and the context it serves is CONNECTED. -/
theorem test_accepted_selection_is_served :
    let s := awaiting selEx (withCtx 3 (order .selecting inD) base)
    (s.ctx 3).state = .selecting ∧ s.selectionInFlight 3 ∧ s.listensOk ∧ ((next (.rsp 3 0) s).ctx 3).state = .connected ∧
      (next (.rsp 3 0) s).lnk.conn = some 3 ∧ (next (.rsp 3 0) s).listensOk := by decide +kernel

theorem witness_TheLinkServesAtMostOneContext : (busy.ctx 3).state = .connected := by decide +kernel

end Sys2Proof.Tests
end

section
/-! PROOFS. The port commands of the unit contexts: START queues a checked order, HALT stops an order by its state and
QUERY_UNIT reports a context (R16 to R19). -/

namespace Sys2Proof.UnitContexts

open Sys2Proof.Machine Sys2Proof.Laws

/-! ### Part states and unit arguments -/

variable {s : State} {f : State → State × Response}

theorem inReady_of_ready (h : s.dsc.part = .ready) : inReady f s = f s := if_pos h

theorem inReady_of_not_ready (h : s.dsc.part ≠ .ready) : inReady f s = (s, .bare .notReady) := if_neg h

theorem inStarted_of_loading (h : s.dsc.part = .loading) : inStarted f s = (s, .bare .notReady) := by
  simp [inStarted, State.started, h]

theorem inStarted_of_not_loading (h : s.dsc.part ≠ .loading) : inStarted f s = f s := by
  simp [inStarted, State.started, h]

section
variable {unit : Byte} {g : UnitAddr → State → State × Response}

theorem withUnit_of_names {u : UnitAddr} (h : names unit u) : withUnit unit g s = g u s := by
  rw [withUnit, unitOf_names h]

theorem withUnit_of_above (h : 32 ≤ unit.toNat) : withUnit unit g s = (s, .bare .badArg) := by
  simp [withUnit, unitOf, Nat.not_lt.mpr h]

end

/-! ### Taking a command's frame -/

section
variable {p : Port} {unit : Byte} {addr : Word} {t : State} {r : Response}

theorem exec_start (h : s.takes p 0x03 [unit, hiByte addr, loByte addr])
    (hd : doStart p unit addr (s.judged p 0x03 [unit, hiByte addr, loByte addr]) = (t, r)) :
    exec (.start p unit addr) s = .next (respond p r t) :=
  congrArg Host.Outcome.next ((takeCommand_eq s p _ _ _ h).trans (by rw [hd]))

theorem exec_halt (h : s.takes p 0x04 [unit]) (hd : doHalt p unit (s.judged p 0x04 [unit]) = (t, r)) :
    exec (.halt p unit) s = .next (respond p r t) :=
  congrArg Host.Outcome.next ((takeCommand_eq s p _ _ _ h).trans (by rw [hd]))

theorem exec_queryUnit (h : s.takes p 0x05 [unit]) (hd : doQueryUnit unit (s.judged p 0x05 [unit]) = (t, r)) :
    exec (.queryUnit p unit) s = .next (respond p r t) :=
  congrArg Host.Outcome.next ((takeCommand_eq s p _ _ _ h).trans (by rw [hd]))

end

/-! ### START (R16, R17) -/

section
variable {p : Port} {unit : Byte} {addr : Word} {u : UnitAddr}

/-- START in READY on a unit address 0 to 31 answers what the checks of the unit give. -/
theorem exec_start_unit {t : State} {r : Response} (ht : s.takes p 0x03 [unit, hiByte addr, loByte addr])
    (hp : (s.judged p 0x03 [unit, hiByte addr, loByte addr]).dsc.part = .ready) (hu : names unit u)
    (hr : startUnit p addr u (s.judged p 0x03 [unit, hiByte addr, loByte addr]) = (t, r)) :
    exec (.start p unit addr) s = .next (respond p r t) :=
  exec_start ht (((inReady_of_ready hp).trans (withUnit_of_names hu)).trans hr)

theorem descriptorAddr_iff {a : Nat} : descriptorAddr a = true ↔ a % 8 = 0 ∧ a ≤ 0x7FF8 := by simp [descriptorAddr]

theorem startUnit_noEntry (he : s.entry u = none) : startUnit p addr u s = (s, .bare .noEntry) := if_pos he

theorem startUnit_busy (he : s.entry u ≠ none) (hi : (s.ctx u).state ≠ .idle) :
    startUnit p addr u s = (s, .bare .busy) := by
  rw [startUnit, if_neg he, if_pos hi]

theorem startUnit_badArg (he : s.entry u ≠ none) (hi : (s.ctx u).state = .idle)
    (ha : addr.toNat % 8 ≠ 0 ∨ 0x7FF8 < addr.toNat) : startUnit p addr u s = (s, .bare .badArg) := by
  have hf : descriptorAddr addr.toNat = false := by
    rw [← Bool.not_eq_true, descriptorAddr_iff]
    omega
  simp [startUnit, he, hi, hf]

theorem startUnit_pageFault (he : s.entry u ≠ none) (hi : (s.ctx u).state = .idle) (h8 : addr.toNat % 8 = 0)
    (hm : addr.toNat ≤ 0x7FF8) (ho : ¬ programOpen s p addr) : startUnit p addr u s = (s, .bare .pageFault) := by
  have hc : s.pageOpen p (pageOf addr) = false := Bool.eq_false_iff.mpr ho
  simp [startUnit, he, hi, descriptorAddr_iff.mpr ⟨h8, hm⟩, hc]

theorem startUnit_programFault (he : s.entry u ≠ none) (hi : (s.ctx u).state = .idle) (h8 : addr.toNat % 8 = 0)
    (hm : addr.toNat ≤ 0x7FF8) (ho : programOpen s p addr) (hf : (fetch .order p s addr.toNat).found = none) :
    startUnit p addr u s = (s, .bare .programFault) := by
  simp [startUnit, he, hi, descriptorAddr_iff.mpr ⟨h8, hm⟩, ho, hf]

theorem startUnit_accepts {d : Descriptor} {a : Word} (he : s.entry u ≠ none) (hi : (s.ctx u).state = .idle)
    (h8 : addr.toNat % 8 = 0) (hm : addr.toNat ≤ 0x7FF8) (ho : programOpen s p addr)
    (hf : (fetch .order p s addr.toNat).found = some (d, a)) :
    startUnit p addr u s = (acceptStart p u d a (fetch .order p s addr.toNat).jumps s, .bare .ok) := by
  simp [startUnit, he, hi, descriptorAddr_iff.mpr ⟨h8, hm⟩, ho, hf]

end

/-! ### The order START queues (R5, R17, R33) -/

theorem ceaseSegment_of_no_segment {u : UnitAddr} (h : (s.ctx u).seg = none) : ceaseSegment u s = s := by
  have hc : s.modCtx u (fun c => { c with seg := none }) = s.modCtx u (fun _ => s.ctx u) := modCtx_congr s u (by rw [← h])
  rw [ceaseSegment, h, hc, modCtx_id]
  rfl

/-- The context of an order START has accepted (R17). -/
def startedContext (p : Port) (d : Descriptor) (a : Word) (jumps : Nat) : Context :=
  { state := .queued, owner := some p, desc := some d, descAddr := some a, jumps := jumps }

/-- The state with the accepted order of a unit at the tail of the select queue, its MILESTONE not yet offered (R14, R17). -/
def withStarted (p : Port) (u : UnitAddr) (d : Descriptor) (a : Word) (jumps : Nat) (s : State) : State :=
  (s.modSelectQ (fun l => l ++ [u])).modCtx u (fun _ => startedContext p d a jumps)

section
variable {p : Port} {u : UnitAddr} {d : Descriptor} {a : Word} {jumps : Nat}

theorem withStarted_owner : ((withStarted p u d a jumps s).ctx u).owner = some p := by
  simp [withStarted, startedContext]

theorem roomIn_withStarted : roomIn (withStarted p u d a jumps s) p ↔ roomIn s p := Iff.rfl

/-- An accepted START on a context without a segment, as a cleared one is. -/
theorem acceptStart_eq (h : (s.ctx u).seg = none) :
    acceptStart p u d a jumps s =
      if d.milestone then offerMilestone u a (withStarted p u d a jumps s) else withStarted p u d a jumps s := by
  rw [acceptStart, ceaseSegment_of_no_segment h]
  rfl

theorem offerMilestone_of_room (ho : (s.ctx u).owner = some p) (hr : roomIn s p) :
    offerMilestone u a s = enqueue p (.milestone u a) s := by
  simp [offerMilestone, ho, (queueFull_eq_false s p).mpr hr]

theorem offerMilestone_of_no_room (ho : (s.ctx u).owner = some p) (hr : ¬ roomIn s p) :
    offerMilestone u a s = s.modCtx u (fun c => { c with milestoneMissed := true }) := by
  simp [offerMilestone, ho, (queueFull_eq_true s p).mpr hr]

theorem acceptStart_without_milestone (h : (s.ctx u).seg = none) (hd : d.milestone = false) :
    acceptStart p u d a jumps s = withStarted p u d a jumps s := by
  simp [acceptStart_eq h, hd]

theorem acceptStart_places_milestone (h : (s.ctx u).seg = none) (hd : d.milestone = true) (hr : roomIn s p) :
    acceptStart p u d a jumps s = enqueue p (.milestone u a) (withStarted p u d a jumps s) := by
  rw [acceptStart_eq h, if_pos hd]
  exact offerMilestone_of_room withStarted_owner (roomIn_withStarted.mpr hr)

theorem acceptStart_misses_milestone (h : (s.ctx u).seg = none) (hd : d.milestone = true) (hr : ¬ roomIn s p) :
    acceptStart p u d a jumps s = (s.modSelectQ (fun l => l ++ [u])).modCtx u
      (fun _ => { startedContext p d a jumps with milestoneMissed := true }) := by
  rw [acceptStart_eq h, if_pos hd, offerMilestone_of_no_room withStarted_owner (mt roomIn_withStarted.mp hr)]
  exact modCtx_modCtx _ _ _ _

end

/-- Settles O19: each check of START in its order, then the queued order with its MILESTONE. -/
theorem startQueuesACheckedOrder : Obligations.StartQueuesACheckedOrder := by
  refine ⟨fun s p unit addr ht => ?_, fun s p unit addr u d a ht hp hu he hc h8 hm ho hf => ?_⟩
  · refine ⟨fun hp => exec_start ht (inReady_of_not_ready hp), fun hp hx => exec_start ht ?_, fun u hp hu => ?_⟩
    · exact (inReady_of_ready hp).trans (withUnit_of_above hx)
    exact ⟨fun he => exec_start_unit ht hp hu (startUnit_noEntry he),
      fun he hi => exec_start_unit ht hp hu (startUnit_busy he hi),
      fun he hi ha => exec_start_unit ht hp hu (startUnit_badArg he hi ha),
      fun he hi h8 hm ho => exec_start_unit ht hp hu (startUnit_pageFault he hi h8 hm ho),
      fun he hi h8 hm ho hf => exec_start_unit ht hp hu (startUnit_programFault he hi h8 hm ho hf)⟩
  · have hg : ((s.judged p 0x03 [unit, hiByte addr, loByte addr]).ctx u).seg = none := by rw [hc]
    have hi : ((s.judged p 0x03 [unit, hiByte addr, loByte addr]).ctx u).state = .idle := by rw [hc]
    have run := exec_start_unit ht hp hu (startUnit_accepts he hi h8 hm ho hf)
    refine ⟨fun hd => ?_, fun hd hr => ?_, fun hd hr => ?_⟩
    · rw [acceptStart_without_milestone hg hd] at run
      exact run
    · rw [acceptStart_places_milestone hg hd hr] at run
      exact run
    · rw [acceptStart_misses_milestone hg hd hr] at run
      exact run

/-! ### HALT (R18) -/

section
variable {p : Port} {unit : Byte} {u : UnitAddr}

/-- HALT in READY on a unit address 0 to 31 answers what the context found gives. -/
theorem exec_halt_unit {t : State} {r : Response} (ht : s.takes p 0x04 [unit])
    (hp : (s.judged p 0x04 [unit]).dsc.part = .ready) (hu : names unit u)
    (hr : haltUnit p u (s.judged p 0x04 [unit]) = (t, r)) : exec (.halt p unit) s = .next (respond p r t) :=
  exec_halt ht (((inReady_of_ready hp).trans (withUnit_of_names hu)).trans hr)

theorem haltUnit_idle (hi : (s.ctx u).state = .idle) : haltUnit p u s = (s, .bare .idle) := if_pos hi

theorem haltUnit_adopts (hi : (s.ctx u).state ≠ .idle) (ho : (s.ctx u).owner = some p.peer)
    (hl : (s.port p.peer).state = .lapsed) : haltUnit p u s = (adoptCounted p u s, adoptedCount 1) := by
  simp [haltUnit, hi, ho, hl]

theorem haltUnit_busy (hs : (s.ctx u).state = .held)
    (ha : (s.ctx u).owner = some p.peer → (s.port p.peer).state = .active) : haltUnit p u s = (s, .bare .busy) := by
  have hn : ¬ ((s.ctx u).owner = some p.peer ∧ (s.port p.peer).state = .lapsed) := by
    rintro ⟨ho, hl⟩
    simp [ha ho] at hl
  simp [haltUnit, hs, hn]

theorem haltUnit_notOwner (hi : (s.ctx u).state ≠ .idle) (hh : (s.ctx u).state ≠ .held)
    (ho : (s.ctx u).owner = some p.peer) (ha : (s.port p.peer).state = .active) :
    haltUnit p u s = (s, .bare .notOwner) := by
  simp [haltUnit, hi, hh, ho, ha]

theorem inProgress_iff {c : Context} : c.inProgress = true ↔ c.state ≠ .idle ∧ c.state ≠ .held := by
  cases h : c.state <;> simp [Context.inProgress, h]

/-- An order in progress of the issuer: HALT goes by the halt request and the state. -/
theorem haltUnit_own (hp : (s.ctx u).inProgress = true) (ho : (s.ctx u).owner = some p) :
    haltUnit p u s =
      if (s.ctx u).halt ≠ none then (s, .bare .ok)
      else if (s.ctx u).state = .queued then (failOrder u .halted s, .bare .ok)
      else (haltOnLink u .halt s, .bare .ok) := by
  obtain ⟨hi, hh⟩ := inProgress_iff.mp hp
  simp [haltUnit, hi, hh, ho]

theorem haltUnit_already (hp : (s.ctx u).inProgress = true) (ho : (s.ctx u).owner = some p)
    (hh : (s.ctx u).halt ≠ none) : haltUnit p u s = (s, .bare .ok) := by
  rw [haltUnit_own hp ho, if_pos hh]

theorem haltUnit_queued (hs : (s.ctx u).state = .queued) (ho : (s.ctx u).owner = some p)
    (hh : (s.ctx u).halt = none) : haltUnit p u s = (failOrder u .halted s, .bare .ok) := by
  rw [haltUnit_own (inProgress_iff.mpr (by simp [hs])) ho, if_neg (not_not.mpr hh), if_pos hs]

theorem haltUnit_onLink (hs : (s.ctx u).onLink) (ho : (s.ctx u).owner = some p) (hh : (s.ctx u).halt = none) :
    haltUnit p u s = (haltOnLink u .halt s, .bare .ok) := by
  have hp : (s.ctx u).inProgress = true := by
    rcases hs with hs | hs | hs <;> simp [Context.inProgress, hs]
  have hq : (s.ctx u).state ≠ .queued := by
    rcases hs with hs | hs | hs <;> simp [hs]
  rw [haltUnit_own hp ho, if_neg (not_not.mpr hh), if_neg hq]

end

/-! ### The halt request (R12, R15) -/

section
variable {u : UnitAddr} {cause : HaltCause}

theorem requestHalt_of_none {c : Context} (h : c.halt = none) : c.requestHalt cause = { c with halt := some cause } := by
  simp [Context.requestHalt, h]

theorem haltOnLink_of_connection (hs : (s.ctx u).state = .selecting ∨ (s.ctx u).state = .connected)
    (hh : (s.ctx u).halt = none) : haltOnLink u cause s = s.modCtx u (fun c => { c with halt := some cause }) := by
  have hd : (s.ctx u).state ≠ .disconnected := by
    rcases hs with hs | hs <;> simp [hs]
  rw [haltOnLink, if_neg hd]
  exact modCtx_congr s u (requestHalt_of_none hh)

theorem modStopQ_modCtx (f : Context → Context) (g : List UnitAddr → List UnitAddr) :
    (s.modCtx u f).modStopQ g = (s.modStopQ g).modCtx u f := rfl

theorem haltOnLink_of_disconnected (hs : (s.ctx u).state = .disconnected) (hh : (s.ctx u).halt = none)
    (hq : (s.ctx u).stopQueued = false) :
    haltOnLink u cause s =
      (s.modStopQ (fun l => l ++ [u])).modCtx u (fun c => { c with halt := some cause, stopQueued := true }) := by
  have hr : s.modCtx u (fun c => c.requestHalt cause) = s.modCtx u (fun c => { c with halt := some cause }) :=
    modCtx_congr s u (requestHalt_of_none hh)
  rw [haltOnLink, if_pos hs, hr, joinStop]
  simp only [ctx_modCtx, if_true, hq, Bool.false_eq_true, if_false]
  rw [modStopQ_modCtx, modCtx_modCtx]

end

/-! ### The end of an order that holds no segment and is not on the stop queue (R10, R117) -/

section
variable {u : UnitAddr} {p : Port} {r : Completion} {t : State}

theorem without_of_not_mem {l : List UnitAddr} (h : u ∉ l) : without u l = l :=
  List.filter_eq_self.mpr (fun _ hv => decide_eq_true (fun e => h (e ▸ hv)))

/-- The end of such an order changes its context, the select queue and RCM, and nothing else. -/
theorem eq_of_endFrame (h : endFrame u s t) (hl : t.lnk = s.lnk) (hg : (s.ctx u).seg = none) (hn : u ∉ s.ctb.stopQ) :
    t = { (s.modSelectQ (without u)).modCtx u (fun _ => t.ctx u) with rcm := t.rcm } := by
  obtain ⟨hctx, -, hports, hdsc, hstore, hpage, hselectQ, hstopQ, hpending⟩ := h
  have hseg : ∀ q, (s.ctx u).segIn q = false := fun q => by simp [Context.segIn, hg]
  refine state_ext ?port ?ctx hselectQ (hstopQ.trans (without_of_not_mem hn)) hl (fun _ => rfl) (fun _ => rfl)
    (fun _ => rfl) rfl ?page hstore hdsc hpending
  case port => exact fun p => congrArg (fun x => x.get p) hports
  case page =>
    intro q
    rw [hpage, hseg]
    rfl
  case ctx =>
    intro v
    change t.ctx v = ((s.modSelectQ (without u)).modCtx u (fun _ => t.ctx u)).ctx v
    by_cases hv : v = u
    · simp [hv]
    · simp [hv, hctx v hv]

/-- The record of such an order is placed: its context goes to IDLE. -/
theorem endedPlaced_eq (h : endedPlaced u p r s t) (hl : t.lnk = s.lnk) (hg : (s.ctx u).seg = none)
    (hn : u ∉ s.ctb.stopQ) :
    t = (enqueue p (.completion r) (s.modSelectQ (without u))).modCtx u (fun _ => {}) := by
  obtain ⟨hq, hs, hc, hqp, hsp, hh, hf⟩ := h
  have ⟨_, hdeferred, _⟩ := hf
  have hrcm : t.rcm = (enqueue p (.completion r) s).rcm := by
    refine rcm_ext ?queues ?seqs (fun _ => by rw [hh, enqueue_heldLists]) hdeferred
    case queues =>
      intro y
      change t.queue y = (enqueue p (.completion r) s).queue y
      rcases eq_or_eq_peer p y with rfl | rfl <;> simp [hq, hqp]
    case seqs =>
      intro y
      change t.seqNo y = (enqueue p (.completion r) s).seqNo y
      rcases eq_or_eq_peer p y with rfl | rfl <;> simp [hs, hsp]
  calc t = { (s.modSelectQ (without u)).modCtx u (fun _ => t.ctx u) with rcm := t.rcm } := eq_of_endFrame hf hl hg hn
    _ = (enqueue p (.completion r) (s.modSelectQ (without u))).modCtx u (fun _ => {}) := by rw [hrcm, hc]; rfl

/-- The record of such an order is held: its unit joins the tail of the owner's held list. -/
theorem endedHeld_eq (h : endedHeld u p r s t) (hl : t.lnk = s.lnk) (hg : (s.ctx u).seg = none)
    (hn : u ∉ s.ctb.stopQ) :
    t = ((s.modSelectQ (without u)).setHeldList p (s.heldList p ++ [u])).modCtx u (fun _ => t.ctx u) := by
  obtain ⟨-, hheld, hqueues, hseqs, hf⟩ := h
  have ⟨_, hdeferred, _⟩ := hf
  have hrcm : t.rcm = (s.setHeldList p (s.heldList p ++ [u])).rcm := by
    refine rcm_ext (fun _ => by rw [hqueues, setHeldList_queues]) (fun _ => by rw [hseqs, setHeldList_seqs]) ?lists hdeferred
    intro y
    change t.heldList y = (s.setHeldList p (s.heldList p ++ [u])).heldList y
    rw [hheld, heldList_setHeldList]
  calc t = { (s.modSelectQ (without u)).modCtx u (fun _ => t.ctx u) with rcm := t.rcm } := eq_of_endFrame hf hl hg hn
    _ = ((s.modSelectQ (without u)).setHeldList p (s.heldList p ++ [u])).modCtx u (fun _ => t.ctx u) := by
      rw [hrcm]; rfl

end

/-- HALT of a QUEUED order: the record it ends with (R101, R102). -/
theorem failOrder_halted_ended {u : UnitAddr} {p : Port} {a : Word} (hs : (s.ctx u).state = .queued)
    (ho : (s.ctx u).owner = some p) (hg : (s.ctx u).seg = none) (ha : (s.ctx u).descAddr = some a) :
    ended u p
      { unit := u, owner := p, lastDesc := a, resume := a + 8, residual := 0,
        conds := closedWith (s.ctx u) { (s.ctx u).conds with halted := true }, status := none }
      s (failOrder u .halted s) := by
  have hres : (s.ctx u).residual = 0 := by simp [Context.residual, hg]
  have hend := failOrder_ended s u p a .halted ho (inProgress_iff.mpr (by simp [hs])) ha
  rw [hres] at hend
  exact hend

/-- Settles O20: each row of the table of R18, then the end of a QUEUED order, placed or held. -/
theorem haltStopsAnOrderByItsState : Obligations.HaltStopsAnOrderByItsState := by
  refine ⟨fun s p unit ht => ?rows, fun s p unit u a ht hu => ?queued⟩
  case rows =>
    refine ⟨fun hp => exec_halt ht (inReady_of_not_ready hp), fun hp hx => exec_halt ht ?_, fun u hp hu => ?_⟩
    · exact (inReady_of_ready hp).trans (withUnit_of_above hx)
    refine ⟨fun hi => exec_halt_unit ht hp hu (haltUnit_idle hi),
      fun hi ho hl => exec_halt_unit ht hp hu (haltUnit_adopts hi ho hl),
      fun hs ha => exec_halt_unit ht hp hu (haltUnit_busy hs ha),
      fun hi hh ho ha => exec_halt_unit ht hp hu (haltUnit_notOwner hi hh ho ha),
      fun hp' ho hh => exec_halt_unit ht hp hu (haltUnit_already hp' ho hh),
      fun hs ho hh => ?connection, fun hs ho hh hq => ?disconnected⟩
    case connection =>
      have run := exec_halt_unit ht hp hu (haltUnit_onLink (hs.imp_right Or.inl) ho hh)
      rwa [haltOnLink_of_connection hs hh] at run
    case disconnected =>
      have run := exec_halt_unit ht hp hu (haltUnit_onLink (.inr (.inr hs)) ho hh)
      rwa [haltOnLink_of_disconnected hs hh hq] at run
  case queued =>
    intro b c hp hs ho hh hg ha hd hn r q
    have run := exec_halt_unit ht hp hu (haltUnit_queued hs ho hh)
    obtain ⟨-, hplaced, hheld⟩ := failOrder_halted_ended hs ho hg ha
    refine ⟨fun hr => ?_, fun hr => ?_⟩
    · rw [endedPlaced_eq (hplaced hd hr) (failOrder_lnk ..) hg hn] at run
      exact run
    · obtain ⟨hctx, -⟩ := hheld hd hr
      refine ⟨_, run, endedHeld_eq (hheld hd hr) (failOrder_lnk ..) hg hn, ?_⟩
      rw [hctx]
      exact ⟨rfl, ho, rfl, rfl, rfl, ha⟩

/-! ### QUERY_UNIT (R19) -/

theorem heldPosition_of_not_held {u : UnitAddr} (h : (s.ctx u).state ≠ .held) : s.heldPosition u = 0 := by
  simp [State.heldPosition, h]

theorem heldPosition_of_held {u : UnitAddr} {p : Port} {pre post : List UnitAddr} (hs : (s.ctx u).state = .held)
    (ho : (s.ctx u).owner = some p) (hl : s.heldList p = pre ++ u :: post) (hn : u ∉ pre) :
    s.heldPosition u = pre.length + 1 := by
  simp [State.heldPosition, hs, ho, hl, List.idxOf_append_of_notMem hn]

/-- Settles O21: the refusals, then the nine bytes of `State.unitBytes`, the last of them the position in the held list. -/
theorem queryUnitReportsTheContext : Obligations.QueryUnitReportsTheContext := by
  refine fun s p unit ht => ⟨fun hp => exec_queryUnit ht (inStarted_of_loading hp),
    fun hp hx => exec_queryUnit ht ((inStarted_of_not_loading hp).trans (withUnit_of_above hx)), fun u hp hu => ?_⟩
  have run := exec_queryUnit ht ((inStarted_of_not_loading hp).trans (withUnit_of_names hu))
  refine ⟨BitVec.ofNat 8 ((s.judged p 0x05 [unit]).heldPosition u), run.trans ?bytes, fun hs => ?notHeld,
    fun x pre post hs ho hl hn => ?held⟩
  case notHeld => rw [heldPosition_of_not_held hs]; rfl
  case held => rw [heldPosition_of_held hs ho hl hn]
  case bytes =>
    generalize (s.judged p 0x05 [unit]) = b
    refine congrArg (fun bytes => Host.Outcome.next (respond p { code := .ok, data := bytes } b)) ?_
    refine congrArg₂ List.cons ?state (congrArg₂ List.cons ?owner (congrArg₂ List.cons rfl (congrArg₂ List.cons rfl
      (congrArg₂ List.cons (congrArg (fun n => hiByte (BitVec.ofNat 16 n)) ?residual)
        (congrArg₂ List.cons (congrArg (fun n => loByte (BitVec.ofNat 16 n)) ?residual)
          (congrArg₂ List.cons ?lookahead (congrArg₂ List.cons ?halt rfl)))))))
    case state => cases (b.ctx u).state <;> rfl
    case owner => rcases (b.ctx u).owner with _ | (_ | _) <;> rfl
    case residual =>
      rw [Context.queryResidual]
      cases (b.ctx u).state <;> cases (b.ctx u).heldRecord <;> cases (b.ctx u).seg <;> rfl
    case lookahead => cases (b.ctx u).lookahead <;> rfl
    case halt => rcases (b.ctx u).halt with _ | (_ | _ | _ | _ | _) <;> rfl

end Sys2Proof.UnitContexts
end

section
/-! PROOFS. The port commands of the store pages: READ_STORE and QUERY_PAGES report, CLAIM_PAGES and SHARE_PAGES retag a range
and RELEASE_PAGES frees one (R50 to R54). Every one of them is a range check, then page checks in their order, each answered
with the lowest page that fails it, then the report or the new tags. -/

namespace Sys2Proof.StorePages

open Sys2Proof.Machine Sys2Proof.Laws

/-! ### The shape of a page command -/

/-- The range check of R50, before the rest of a command (R50 to R53). -/
def inPageRange (first number : Byte) (s : State) (rest : State × Response) : State × Response :=
  if rangeOk first number then rest else (s, .bare .badArg)

/-- A page check before the rest of a command: the page it found is named in the refusal (R50 to R52, R54). -/
def refuseAt (code : Result) (found : Option PageNo) (s : State) (rest : State × Response) : State × Response :=
  match found with
  | some q => (s, .naming code q.val)
  | none => rest

/-- Every page of the range takes a tag, and the command is answered OK (R50 to R52). -/
def tagRange (tag : Tag) (first number : Byte) (s : State) : State × Response :=
  (s.tagPages tag (pageRange first.toNat number.toNat), .bare .ok)

/-- A port command has come out as this state and response, and its response is formed (R173). -/
def answered (p : Port) (r : State × Response) : Host.Outcome State Fault Refusal := .next (respond p r.2 r.1)

section
variable {first number : Byte} {s : State} {rest : State × Response}

theorem inPageRange_of_fits (h : rangeFits first number) : inPageRange first number s rest = rest :=
  if_pos ((rangeOk_iff first number).mpr h)

theorem inPageRange_of_not_fits (h : ¬ rangeFits first number) :
    inPageRange first number s rest = (s, .bare .badArg) :=
  if_neg (mt (rangeOk_iff first number).mp h)

variable {code : Result} {found : Option PageNo} {fails : PageNo → Prop}

/-- A search that finds exactly the page `fails` describes refuses with that page. -/
theorem refuseAt_of_fails (hfound : ∀ q, found = some q ↔ fails q) {q : PageNo} (hq : fails q) :
    refuseAt code found s rest = (s, .naming code q.val) := by
  rw [(hfound q).mpr hq, refuseAt]

theorem refuseAt_of_none_fails (hfound : ∀ q, found = some q ↔ fails q) (hnone : ∀ q, ¬ fails q) :
    refuseAt code found s rest = rest := by
  have hn : found = none := Option.eq_none_iff_forall_ne_some.mpr fun q h => hnone q ((hfound q).mp h)
  rw [hn, refuseAt]

end

/-! ### The lowest page that fails a check -/

/-- A search of the pages of a range, in rising order, finds the lowest that fails the check. -/
theorem find_iff_lowestFailing {l : List PageNo} {bad : PageNo → Bool} {inR ok : PageNo → Prop}
    (hsorted : l.Pairwise (fun q r => q < r)) (hmem : ∀ q, q ∈ l ↔ inR q) (hbad : ∀ q, bad q = true ↔ ¬ ok q)
    (q : PageNo) : l.find? bad = some q ↔ lowestFailing inR ok q := by
  have hok : ∀ r, (!bad r) = true ↔ ok r := fun r => by rw [Bool.not_eq_true', ← Bool.not_eq_true, hbad, not_not]
  simpa only [Bool.not_not, lowestFailing, hmem, hok] using find_lowest l (fun r => !bad r) hsorted q

theorem find_pageRange_iff {first number : Byte} {bad : PageNo → Bool} {ok : PageNo → Prop} (hr : rangeFits first number)
    (hbad : ∀ q, bad q = true ↔ ¬ ok q) (q : PageNo) :
    (pageRange first.toNat number.toNat).find? bad = some q ↔ lowestFailing (inRange first number) ok q := by
  have hend : first.toNat + number.toNat ≤ 64 := by
    obtain ⟨-, -, -, hlast⟩ := hr
    omega
  exact find_iff_lowestFailing (pageRange_sorted hend) (mem_pageRange hr) hbad q

section
variable {s : State} {p : Port} {addr : Word} {n : Nat}

theorem ofPort_eq (p : Port) : Tag.ofPort p = if p = .a then .portA else .portB := by cases p <;> rfl

theorem not_pageOpen_iff (q : PageNo) : (!s.pageOpen p q) = true ↔
    ¬ ((s.page q).tag = (if p = .a then .portA else .portB) ∨ (s.page q).tag = .shared) := by
  simp [State.pageOpen, ofPort_eq]

theorem pageOf_le_pageOf_last (h : bytesFit addr n) : pageOf addr ≤ pageOf (addr + BitVec.ofNat 16 (n - 1)) := by
  obtain ⟨-, hn, hmax, hend⟩ := h
  have hlast : (addr + BitVec.ofNat 16 (n - 1)).toNat = addr.toNat + (n - 1) := by
    rw [BitVec.toNat_add, BitVec.toNat_ofNat]
    omega
  simp only [pageOf, Fin.le_def, hlast]
  omega

/-- The page check of R54 finds the lowest page of the bytes that is not open: their first and their last page are all they
touch, and these may be one page. -/
theorem closedPage_iff (h : bytesFit addr n) (q : PageNo) :
    s.closedPage p addr n = some q ↔ lowestFailing (holdsByte addr n) (fun r => s.pageOpen p r = true) q := by
  have hpages := holdsByte_iff h
  have hbad : ∀ r, (!s.pageOpen p r) = true ↔ ¬ s.pageOpen p r = true := fun r => by simp
  rw [State.closedPage]
  rcases (pageOf_le_pageOf_last h).eq_or_lt with hone | htwo
  · have honce : [pageOf addr, pageOf addr].find? (fun r => !s.pageOpen p r) =
        [pageOf addr].find? (fun r => !s.pageOpen p r) := by
      cases ho : s.pageOpen p (pageOf addr) <;> simp [ho]
    rw [← hone] at hpages ⊢
    rw [honce]
    exact find_iff_lowestFailing (List.pairwise_singleton _ _) (fun r => by simp [hpages]) hbad q
  · exact find_iff_lowestFailing (List.pairwise_pair.mpr htwo) (fun r => by simp [hpages]) hbad q

end

/-! ### What each command does when its frame is taken

`b` is the state the command finds once its frame has been judged good (R173). -/

section
variable {s b : State} {p : Port} {addr : Word} {len first number : Byte}

theorem exec_readStore (h : s.takes p 0x0A [hiByte addr, loByte addr, len])
    (hb : s.judged p 0x0A [hiByte addr, loByte addr, len] = b) :
    exec (.readStore p addr len) s = answered p
      (if bytesOk addr len.toNat then
        refuseAt .pageFault (b.closedPage p addr len.toNat) b (b, { code := .ok, data := b.readBytes addr len.toNat })
      else (b, .bare .badArg)) :=
  hb ▸ congrArg Host.Outcome.next (takeCommand_eq s p _ _ _ h)

theorem exec_claimPages (h : s.takes p 0x0C [first, number]) (hb : s.judged p 0x0C [first, number] = b) :
    exec (.claimPages p first number) s = answered p (inPageRange first number b
      (refuseAt .inUse ((pageRange first.toNat number.toNat).find? (fun q => (b.page q).tag ≠ .free)) b
        (tagRange (Tag.ofPort p) first number b))) :=
  hb ▸ congrArg Host.Outcome.next (takeCommand_eq s p _ _ _ h)

theorem exec_sharePages (h : s.takes p 0x0D [first, number]) (hb : s.judged p 0x0D [first, number] = b) :
    exec (.sharePages p first number) s = answered p (inPageRange first number b
      (refuseAt .notOwner ((pageRange first.toNat number.toNat).find? (fun q => (b.page q).tag ≠ Tag.ofPort p)) b
        (tagRange .shared first number b))) :=
  hb ▸ congrArg Host.Outcome.next (takeCommand_eq s p _ _ _ h)

theorem exec_releasePages (h : s.takes p 0x0E [first, number]) (hb : s.judged p 0x0E [first, number] = b) :
    exec (.releasePages p first number) s = answered p (inPageRange first number b
      (refuseAt .notOwner ((pageRange first.toNat number.toNat).find? (fun q => !b.pageOpen p q)) b
        (refuseAt .inUse ((pageRange first.toNat number.toNat).find? (fun q => (b.page q).uses ≠ 0)) b
          (tagRange .free first number b)))) :=
  hb ▸ congrArg Host.Outcome.next (takeCommand_eq s p _ _ _ h)

theorem exec_queryPages (h : s.takes p 0x0F [first, number]) (hb : s.judged p 0x0F [first, number] = b) :
    exec (.queryPages p first number) s = answered p (inPageRange first number b
      (b, { code := .ok, data := (pageRange first.toNat number.toNat).map (fun q => (b.page q).byte) })) :=
  hb ▸ congrArg Host.Outcome.next (takeCommand_eq s p _ _ _ h)

end

/-! ### READ_STORE and QUERY_PAGES (R53, R54) -/

/-- The byte of a page entry is its tag above six bits of use count (R53). -/
theorem pageEntryByte_eq (e : PageEntry) (h : e.uses ≤ 32) : e.byte = BitVec.ofNat 8 (64 * e.tag.code.toNat + e.uses) := by
  have hmask : (BitVec.ofNat 8 e.uses &&& (0x3F : Byte)).toNat = e.uses := by
    rw [BitVec.toNat_and, BitVec.toNat_ofNat, show (0x3F : Byte).toNat = 2 ^ 6 - 1 from rfl,
      Nat.and_two_pow_sub_one_eq_mod]
    omega
  have htag : e.tag.code.toNat < 4 := by cases e.tag <;> decide
  have hshift : (e.tag.code <<< 6).toNat = e.tag.code.toNat <<< 6 := by
    rw [BitVec.toNat_shiftLeft, Nat.mod_eq_of_lt (by rw [Nat.shiftLeft_eq]; omega)]
  apply BitVec.eq_of_toNat_eq
  calc e.byte.toNat = e.tag.code.toNat <<< 6 ||| e.uses := by rw [PageEntry.byte, BitVec.toNat_or, hshift, hmask]
    _ = e.tag.code.toNat <<< 6 + e.uses := (Nat.shiftLeft_add_eq_or_of_lt (by omega) _).symm
    _ = (BitVec.ofNat 8 (64 * e.tag.code.toNat + e.uses)).toNat := by
      rw [Nat.shiftLeft_eq, BitVec.toNat_ofNat]
      omega

/-- A page of the range stands in the list of its pages at its distance from the first. -/
theorem pageRange_getElem? {first number : Byte} {q : PageNo} (h : inRange first number q) :
    (pageRange first.toNat number.toNat)[q.val - first.toNat]? = some q := by
  obtain ⟨hlo, hhi⟩ := h
  have hi : q.val - first.toNat < number.toNat := by omega
  have hq : (first.toNat + (q.val - first.toNat)) % 64 = q.val := by
    have := q.isLt
    omega
  simp [pageRange, hi, hq]

/-- Settles O15: the two checks of READ_STORE and the one of QUERY_PAGES, then the bytes read and the page entries encoded. -/
theorem readStoreAndQueryPagesReport : Obligations.ReadStoreAndQueryPagesReport := by
  refine ⟨fun s p addr len ht => ?read, fun s p first number ht => ?query⟩
  case read =>
    intro b fails
    have run := exec_readStore (b := b) ht rfl
    have hclosed := fun h : bytesFit addr len.toNat => closedPage_iff (s := b) (p := p) h
    refine ⟨fun hx => ?_, fun q hx hq => ?_, fun hx hn => ?_⟩
    · rw [if_neg (mt (bytesOk_iff addr len.toNat).mp hx)] at run
      exact run
    · rw [if_pos ((bytesOk_iff addr len.toNat).mpr hx), refuseAt_of_fails (hclosed hx) hq] at run
      exact run
    · rw [if_pos ((bytesOk_iff addr len.toNat).mpr hx), refuseAt_of_none_fails (hclosed hx) hn] at run
      obtain ⟨-, -, -, hend⟩ := hx
      exact ⟨b.readBytes addr len.toNat, run, readBytes_length b _ _, fun i hi => readBytes_get b _ i addr hi hend⟩
  case query =>
    intro b
    have run := exec_queryPages (b := b) ht rfl
    refine ⟨fun hr => ?_, fun hr => ?_⟩
    · rw [inPageRange_of_not_fits hr] at run
      exact run
    · rw [inPageRange_of_fits hr] at run
      refine ⟨_, run, by simp [pageRange], fun q hq hu => ?_⟩
      rw [List.getElem?_map, pageRange_getElem? hq, Option.map_some, pageEntryByte_eq _ hu]
      cases (b.page q).tag <;> rfl

/-! ### CLAIM_PAGES, SHARE_PAGES and RELEASE_PAGES (R50 to R52) -/

section
variable {s b : State} {c : Instr} {p : Port} {first number : Byte} {tag : Tag}

theorem retagged_tagPages (h : rangeFits first number) :
    retagged first number tag b (b.tagPages tag (pageRange first.toNat number.toNat)).str.pages := by
  have hpage := tagPages_page tag (pageRange first.toNat number.toNat) b
  refine fun q => ⟨fun hq => ?_, fun hq => ?_⟩
  · exact (hpage q).trans (if_pos ((mem_pageRange h q).mpr hq))
  · exact (hpage q).trans (if_neg (mt (mem_pageRange h q).mp hq))

/-- A command that comes out as new tags for its range answers OK with only the page table changed. -/
theorem retags_of_tagRange (run : exec c s = answered p (tagRange tag first number b)) (h : rangeFits first number) :
    ∃ v, exec c s = .next (answers p .ok (b.withPages v)) ∧ retagged first number tag b v := by
  refine ⟨_, run.trans ?_, retagged_tagPages h⟩
  rw [← tagPages_eq]
  rfl

/-- The outcomes of a command with one page check before it retags its range, as CLAIM_PAGES and SHARE_PAGES have (R50, R51). -/
theorem retag_outcomes {code : Result} {bad : PageNo → Bool} {ok : PageNo → Prop}
    (run : exec c s = answered p (inPageRange first number b
      (refuseAt code ((pageRange first.toNat number.toNat).find? bad) b (tagRange tag first number b))))
    (hbad : ∀ q, bad q = true ↔ ¬ ok q) :
    (¬ rangeFits first number → exec c s = .next (answers p .badArg b)) ∧
      (∀ q, rangeFits first number → lowestFailing (inRange first number) ok q →
        exec c s = .next (respond p { code := code, data := [BitVec.ofNat 8 q.val] } b)) ∧
      (rangeFits first number → (∀ q, ¬ lowestFailing (inRange first number) ok q) →
        ∃ v, exec c s = .next (answers p .ok (b.withPages v)) ∧ retagged first number tag b v) := by
  refine ⟨fun hr => ?_, fun q hr hq => ?_, fun hr hn => ?_⟩
  · rw [inPageRange_of_not_fits hr] at run
    exact run
  · rw [inPageRange_of_fits hr, refuseAt_of_fails (find_pageRange_iff hr hbad) hq] at run
    exact run
  · rw [inPageRange_of_fits hr, refuseAt_of_none_fails (find_pageRange_iff hr hbad) hn] at run
    exact retags_of_tagRange run hr

end

/-- Settles O17: CLAIM_PAGES checks for FREE pages and SHARE_PAGES for the issuer's, and both then retag the range. -/
theorem claimAndSharePagesRetagThem : Obligations.ClaimAndSharePagesRetagThem := by
  refine ⟨fun s p first number ht => ?claim, fun s p first number ht => ?share⟩
  case claim =>
    rw [← ofPort_eq]
    exact retag_outcomes (exec_claimPages ht rfl) (fun q => decide_eq_true_iff)
  case share =>
    rw [← ofPort_eq]
    exact retag_outcomes (exec_sharePages ht rfl) (fun q => decide_eq_true_iff)

/-- Settles O18: the check for pages closed to the issuer is passed by the whole range before the check for pages in use. -/
theorem releasePagesFreesUnusedPages : Obligations.ReleasePagesFreesUnusedPages := by
  intro s p first number ht b closed used
  have run := exec_releasePages (b := b) ht rfl
  have hclosed := fun hr : rangeFits first number =>
    find_pageRange_iff hr (not_pageOpen_iff (s := b) (p := p))
  have hused := fun hr : rangeFits first number =>
    find_pageRange_iff hr (fun q => decide_eq_true_iff (p := (b.page q).uses ≠ 0))
  refine ⟨fun hr => ?_, fun q hr hq => ?_, fun q hr hc hq => ?_, fun hr hc hn => ?_⟩
  · rw [inPageRange_of_not_fits hr] at run
    exact run
  · rw [inPageRange_of_fits hr, refuseAt_of_fails (hclosed hr) hq] at run
    exact run
  · rw [inPageRange_of_fits hr, refuseAt_of_none_fails (hclosed hr) hc, refuseAt_of_fails (hused hr) hq] at run
    exact run
  · rw [inPageRange_of_fits hr, refuseAt_of_none_fails (hclosed hr) hc, refuseAt_of_none_fails (hused hr) hn] at run
    exact retags_of_tagRange run hr

end Sys2Proof.StorePages
end

section
/-! PROOFS. The port commands of the directory: LOAD_DIRECTORY writes a staging entry, READ_DIRECTORY reads the active directory
and COMMIT_DIRECTORY makes the checked staging entries the active directory (R160, R161, R163). -/

namespace Sys2Proof.DirectoryCommands

open Sys2Proof.Machine Sys2Proof.Laws Sys2Proof.UnitContexts Sys2Proof.StorePages

/-! ### What each command does when its frame is taken

`b` is the state the command finds once its frame has been judged good (R173). -/

section
variable {s b : State} {p : Port} {index unit mode home silence count lease : Byte}

theorem exec_loadDirectory (h : s.takes p 0x13 [index, unit, mode, home, silence])
    (hb : s.judged p 0x13 [index, unit, mode, home, silence] = b) :
    exec (.loadDirectory p index unit mode home silence) s =
      answered p (doLoadDirectory index unit mode home silence b) :=
  hb ▸ congrArg Host.Outcome.next (takeCommand_eq s p _ _ _ h)

theorem exec_commitDirectory (h : s.takes p 0x14 [count, lease]) (hb : s.judged p 0x14 [count, lease] = b) :
    exec (.commitDirectory p count lease) s = answered p (doCommitDirectory count lease b) :=
  hb ▸ congrArg Host.Outcome.next (takeCommand_eq s p _ _ _ h)

theorem exec_readDirectory (h : s.takes p 0x15 [index]) (hb : s.judged p 0x15 [index] = b) :
    exec (.readDirectory p index) s = answered p (doReadDirectory index b) :=
  hb ▸ congrArg Host.Outcome.next (takeCommand_eq s p _ _ _ h)

end

/-! ### LOAD_DIRECTORY (R160) -/

section
variable {s : State} {index unit mode home silence x : Byte} {k u : UnitAddr}

theorem modeOf_of_above (h : 2 ≤ x.toNat) : modeOf x = none := by
  rw [modeOf]
  split
  · omega
  · omega
  · rfl

theorem portOf_of_above (h : 2 ≤ x.toNat) : portOf x = none := by
  rw [portOf]
  split
  · omega
  · omega
  · rfl

/-- A byte of a two-valued field is 0 or 1. -/
theorem eq_zero_or_one (h : x.toNat ≤ 1) : x = 0 ∨ x = 1 := by bv_omega

theorem modeOf_of_le_one (h : x.toNat ≤ 1) : modeOf x = some (if x = 0 then .short else .long) := by
  obtain rfl | rfl := eq_zero_or_one h <;> rfl

theorem portOf_of_le_one (h : x.toNat ≤ 1) : portOf x = some (if x = 0 then .a else .b) := by
  obtain rfl | rfl := eq_zero_or_one h <;> rfl

theorem unitOf_of_above (h : 32 ≤ x.toNat) : unitOf x = none := dif_neg (Nat.not_lt.mpr h)

theorem dirEntryOf_eq_none (h : 32 ≤ unit.toNat ∨ 2 ≤ mode.toNat ∨ 2 ≤ home.toNat) :
    dirEntryOf unit mode home silence = none := by
  rcases h with hu | hm | hh
  · simp [dirEntryOf, unitOf_of_above hu]
  · simp [dirEntryOf, modeOf_of_above hm]
  · simp [dirEntryOf, portOf_of_above hh]

theorem dirEntryOf_of_fields (hu : names unit u) (hm : mode.toNat ≤ 1) (hh : home.toNat ≤ 1) :
    dirEntryOf unit mode home silence =
      some { unit := u, mode := if mode = 0 then .short else .long, home := if home = 0 then .a else .b,
             silence := silence } := by
  rw [dirEntryOf, unitOf_names hu, modeOf_of_le_one hm, portOf_of_le_one hh]

theorem doLoadDirectory_badArg (hp : s.dsc.part ≠ .loading)
    (h : 32 ≤ index.toNat ∨ 32 ≤ unit.toNat ∨ 2 ≤ mode.toNat ∨ 2 ≤ home.toNat) :
    doLoadDirectory index unit mode home silence s = (s, .bare .badArg) := by
  rw [doLoadDirectory, inStarted_of_not_loading hp]
  rcases Nat.lt_or_ge index.toNat 32 with hlt | hge
  · have hnone := dirEntryOf_eq_none (silence := silence) (h.resolve_left (Nat.not_le.mpr hlt))
    have hk : names index ⟨index.toNat, hlt⟩ := rfl
    rw [withUnit_of_names hk, hnone]
  · exact withUnit_of_above hge

theorem doLoadDirectory_stages {e : DirEntry} (hp : s.dsc.part ≠ .loading) (hk : names index k)
    (he : dirEntryOf unit mode home silence = some e) :
    doLoadDirectory index unit mode home silence s = (stageEntry k e s, .bare .ok) := by
  rw [doLoadDirectory, inStarted_of_not_loading hp, withUnit_of_names hk, he]

end

/-! ### READ_DIRECTORY (R163) -/

section
variable {s : State} {index : Byte} {k : UnitAddr} {d : Directory} {e : DirEntry}

theorem doReadDirectory_of_names (hp : s.dsc.part ≠ .loading) (hk : names index k) :
    doReadDirectory index s = (s, directoryResponse k s) :=
  (inStarted_of_not_loading hp).trans (withUnit_of_names hk)

theorem directoryResponse_noEntry (h : ∀ d, s.dsc.active = some d → d.entries.length ≤ k.val) :
    directoryResponse k s = .bare .noEntry := by
  cases ha : s.dsc.active with
  | none => simp [directoryResponse, ha]
  | some d => simp [directoryResponse, ha, List.getElem?_eq_none (h d ha)]

theorem dirEntryBytes_eq (e : DirEntry) :
    e.bytes = [BitVec.ofNat 8 e.unit.val, if e.mode = .long then 1 else 0, if e.home = .b then 1 else 0, e.silence] := by
  obtain ⟨unit, mode, home, silence⟩ := e
  cases mode <;> cases home <;> rfl

theorem directoryResponse_entry (ha : s.dsc.active = some d) (he : d.entries[k.val]? = some e) :
    directoryResponse k s = { code := .ok, data := BitVec.ofNat 8 d.entries.length :: d.lease :: e.bytes } := by
  simp [directoryResponse, ha, he]

end

/-- Settles O26: LOAD_DIRECTORY decodes its four fields and writes the staging entry, READ_DIRECTORY looks the index up in the
active directory. -/
theorem theStagingDirectoryIsWrittenAndTheActiveOneRead :
    Obligations.TheStagingDirectoryIsWrittenAndTheActiveOneRead := by
  refine ⟨fun s p index unit mode home silence ht => ?load, fun s p index ht => ?read⟩
  case load =>
    intro b i
    have run := exec_loadDirectory (b := b) ht rfl
    refine ⟨fun hp => ?_, fun hp hx => ?_, fun k u hp hk hu hm hh => ?_⟩
    · rw [doLoadDirectory, inStarted_of_loading hp] at run
      exact run
    · rw [doLoadDirectory_badArg hp hx] at run
      exact run
    · rw [doLoadDirectory_stages hp hk (dirEntryOf_of_fields hu hm hh)] at run
      exact run
  case read =>
    intro b i
    have run := exec_readDirectory (b := b) ht rfl
    refine ⟨fun hp => ?_, fun hp hx => ?_, fun hp hx hn => ?_, fun d e hp hx ha he => ?_⟩
    · rw [doReadDirectory, inStarted_of_loading hp] at run
      exact run
    · rw [doReadDirectory, inStarted_of_not_loading hp, withUnit_of_above hx] at run
      exact run
    · have hk : names index ⟨index.toNat, hx⟩ := rfl
      rw [doReadDirectory_of_names hp hk, directoryResponse_noEntry hn] at run
      exact run
    · have hk : names index ⟨index.toNat, hx⟩ := rfl
      rw [doReadDirectory_of_names hp hk, directoryResponse_entry ha he, dirEntryBytes_eq] at run
      exact run

/-! ### The check of the staging entries (R161 check 4) -/

/-- The entry at an index of a staged run is empty, or its unit is one of `seen` or of an entry at a lower index. -/
def faultAt (seen : List UnitAddr) (l : List (Option DirEntry)) (k : Nat) : Prop :=
  l[k]? = some none ∨
    ∃ e : DirEntry, l[k]? = some (some e) ∧ (e.unit ∈ seen ∨ ∃ f : DirEntry, some f ∈ l.take k ∧ f.unit = e.unit)

section
variable {seen : List UnitAddr} {l : List (Option DirEntry)} {e : DirEntry} {i k : Nat}

theorem faultAt_none_cons : faultAt seen (none :: l) 0 := .inl rfl

theorem faultAt_some_cons_zero : faultAt seen (some e :: l) 0 ↔ e.unit ∈ seen := by simp [faultAt]

/-- Past a written entry its unit counts as seen. -/
theorem faultAt_some_cons_succ : faultAt seen (some e :: l) (k + 1) ↔ faultAt (e.unit :: seen) l k := by
  simp only [faultAt, List.getElem?_cons_succ, List.take_succ_cons, List.mem_cons, Option.some.injEq, or_and_right,
    exists_or, exists_eq_left, eq_comm (a := e.unit), or_left_comm, or_assoc]

/-- The search of R161 check 4 stops at the lowest fault. -/
theorem stagingFault_of_lowest (hk : faultAt seen l k) (hlow : ∀ j < k, ¬ faultAt seen l j) :
    stagingFault l i seen = some (i + k) := by
  induction l generalizing seen i k with
  | nil => simp [faultAt] at hk
  | cons x rest ih =>
    cases x with
    | none =>
      obtain rfl : k = 0 := by
        by_contra hne
        exact hlow 0 (Nat.pos_of_ne_zero hne) faultAt_none_cons
      rfl
    | some e =>
      cases k with
      | zero => rw [stagingFault, if_pos (faultAt_some_cons_zero.mp hk), Nat.add_zero]
      | succ k =>
        have hnew : e.unit ∉ seen := mt faultAt_some_cons_zero.mpr (hlow 0 (Nat.succ_pos k))
        have hrest : ∀ j < k, ¬ faultAt (e.unit :: seen) rest j := fun j hj =>
          mt faultAt_some_cons_succ.mpr (hlow (j + 1) (Nat.succ_lt_succ hj))
        rw [stagingFault, if_neg hnew, ih (faultAt_some_cons_succ.mp hk) hrest, Nat.add_right_comm, Nat.add_assoc]

/-- Entries that are all written, with units that differ from one another and from those seen, pass the check. -/
theorem stagingFault_of_distinct {es : List DirEntry} (hn : (es.map DirEntry.unit).Nodup)
    (hs : ∀ e ∈ es, e.unit ∉ seen) : stagingFault (es.map some) i seen = none := by
  induction es generalizing seen i with
  | nil => rfl
  | cons e es ih =>
    rw [List.map_cons, List.nodup_cons] at hn
    obtain ⟨hfirst, hrest⟩ := hn
    rw [List.map_cons, stagingFault, if_neg (hs e List.mem_cons_self)]
    refine ih hrest fun f hf hmem => ?_
    rcases List.mem_cons.mp hmem with hsame | hseen
    · exact hfirst (hsame ▸ List.mem_map_of_mem hf)
    · exact hs f (List.mem_cons_of_mem e hf) hseen

end

section
variable {s : State} {n : Nat} {k : Fin 32}

theorem staged_getElem? (h : k.val < n) : (s.staged n)[k.val]? = some s.dsc.staging[k.val] := by
  simp [State.staged, h]

theorem some_mem_staged_take {f : DirEntry} (h : k.val < n) :
    some f ∈ (s.staged n).take k.val ↔ ∃ j : Fin 32, j < k ∧ s.dsc.staging[j.val] = some f := by
  rw [State.staged, List.take_take, Nat.min_eq_left h.le, List.mem_take_iff_getElem]
  constructor
  · rintro ⟨j, hj, hf⟩
    have hjk : j < k.val := lt_of_lt_of_le hj (Nat.min_le_left _ _)
    exact ⟨⟨j, hjk.trans k.isLt⟩, hjk, by simpa using hf⟩
  · rintro ⟨j, hj, hf⟩
    have hlen : j.val < min k.val s.dsc.staging.toList.length := by simpa using hj
    exact ⟨j.val, hlen, by simpa using hf⟩

/-- A fault of the staging entries that a commit copies, as R161 check 4 states it. -/
theorem faultAt_staged_iff (h : k.val < n) :
    faultAt [] (s.staged n) k.val ↔ (s.dsc.staging[k.val] = none ∨
      ∃ (j : Fin 32) (e f : DirEntry), j < k ∧ s.dsc.staging[j.val] = some e ∧ s.dsc.staging[k.val] = some f ∧
        e.unit = f.unit) := by
  simp only [faultAt, staged_getElem? h, some_mem_staged_take h, Option.some.injEq, List.not_mem_nil, false_or]
  refine or_congr_right ⟨?_, ?_⟩
  · rintro ⟨f, hf, e, ⟨j, hj, he⟩, hunit⟩
    exact ⟨j, e, f, hj, he, hf, hunit⟩
  · rintro ⟨j, e, f, hj, he, hf, hunit⟩
    exact ⟨f, hf, e, ⟨j, hj, he⟩, hunit⟩

/-- The staged run is the list of its entries when every one of them is written. -/
theorem staged_eq_map_some {es : List DirEntry} (hlen : es.length = n) (hmax : n ≤ 32)
    (h : ∀ k : Fin 32, k.val < n → s.dsc.staging[k.val] = es[k.val]?) : s.staged n = es.map some := by
  apply List.ext_getElem
  · simp [State.staged, hlen, hmax]
  · intro k hk hk'
    have hlt : k < n := by simpa [hlen] using hk'
    simpa [State.staged, hlen, hlt] using h ⟨k, hlt.trans_le hmax⟩ hlt

end

/-! ### The checks of COMMIT_DIRECTORY (R161 checks 2 to 4) -/

section
variable {s : State} {count lease : Byte}

theorem quiet_iff : s.quiet = true ↔ (∀ u, (s.ctx u).state = .idle) ∧ s.rcm.deferred = [] := by
  simp [State.quiet, allUnits]

theorem quiet_iff_not_busy : s.quiet = true ↔ ¬ ((∃ u, (s.ctx u).state ≠ .idle) ∨ s.rcm.deferred ≠ []) := by
  simp [quiet_iff]

theorem doCommitDirectory_started (hp : s.dsc.part ≠ .loading) :
    doCommitDirectory count lease s = commit count lease s := inStarted_of_not_loading hp

theorem commit_badArg (h : 32 < count.toNat ∨ lease = 0) : commit count lease s = (s, .bare .badArg) := if_pos h

theorem arguments_pass (hc : count.toNat ≤ 32) (hl : lease ≠ 0) : ¬ (32 < count.toNat ∨ lease = 0) :=
  not_or.mpr ⟨Nat.not_lt.mpr hc, hl⟩

theorem commit_busy (hc : count.toNat ≤ 32) (hl : lease ≠ 0) (hq : s.quiet = false) :
    commit count lease s = (s, .bare .busy) := by
  rw [commit, if_neg (arguments_pass hc hl), if_pos hq]

theorem commit_of_fault {k : Nat} (hc : count.toNat ≤ 32) (hl : lease ≠ 0) (hq : s.quiet = true)
    (hf : stagingFault (s.staged count.toNat) 0 [] = some k) : commit count lease s = (s, .naming .badArg k) := by
  rw [commit, if_neg (arguments_pass hc hl), if_neg (by simp [hq]), hf]

theorem commit_activates {es : List DirEntry} (hc : count.toNat ≤ 32) (hl : lease ≠ 0) (hq : s.quiet = true)
    (hs : s.staged count.toNat = es.map some) (hn : (es.map DirEntry.unit).Nodup) :
    commit count lease s = (activate { entries := es, lease := lease } s, .bare .ok) := by
  have hnone : stagingFault (es.map some) 0 [] = none := stagingFault_of_distinct hn (fun _ _ => List.not_mem_nil)
  have hentries : (es.map some).filterMap id = es := by simp
  rw [commit, if_neg (arguments_pass hc hl), if_neg (by simp [hq]), hs, hnone, hentries]

end

/-! ### A directory becomes active (R157, R161) -/

section
variable (s : State)

theorem offerBoth_same (code : NoticeCode) (arg : Option Nat) : sameButPortsAndQueues s (offerBoth code arg s) :=
  ⟨ctb_ext (offerBoth_ctx s code arg) (offerBoth_selectQ s code arg) (offerBoth_stopQ s code arg),
    offerBoth_lnk s code arg, str_ext (offerBoth_store s code arg) (offerBoth_page s code arg),
    perPort_ext (offerBoth_heldList s code arg), offerBoth_deferred s code arg, offerBoth_pending s code arg⟩

/-- The state in which a directory is active and the leases run with its period, CONFIG_READY not yet offered. -/
def withDirectory (d : Directory) (s : State) : State :=
  restartLeases (setLeasePeriods d.lease (s.modDsc (fun x => { x with active := some d, part := .ready })))

variable (d : Directory)

theorem activate_eq : activate d s = offerBoth .configReady none (withDirectory d s) := rfl

theorem withDirectory_same : sameButPortsAndQueues s (withDirectory d s) := ⟨rfl, rfl, rfl, rfl, rfl, rfl⟩

theorem withDirectory_port (x : Port) :
    (withDirectory d s).port x = { s.port x with
      leasePeriod := d.lease,
      lease := if (s.port x).state = .active then .running (d.lease.toNat * 10000) else (s.port x).lease } := by
  have hport : (withDirectory d s).port x = { s.port x with leasePeriod := d.lease }.restartLease := by cases x <;> rfl
  have htens : Timer.tens d.lease = .running (d.lease.toNat * 10000) := by rw [Timer.tens, Timer.ms, Nat.mul_assoc]
  rw [hport, PortIf.restartLease, htens]
  split <;> rfl

theorem activate_same : sameButPortsAndQueues s (activate d s) := offerBoth_same (withDirectory d s) .configReady none

theorem activate_dsc : (activate d s).dsc = { s.dsc with active := some d, part := .ready } :=
  offerBoth_dsc (withDirectory d s) .configReady none

theorem activate_offers (x : Port) : noticeOffered x .configReady none s (activate d s) := by
  obtain ⟨hoffer, -⟩ := offerBoth_spec (withDirectory d s) .configReady none x
  have hlost : ((withDirectory d s).port x).noticeLost = (s.port x).noticeLost := by rw [withDirectory_port]
  rw [noticeOffered, hlost] at hoffer
  exact hoffer

theorem activate_port (x : Port) :
    (activate d s).port x = { s.port x with
      leasePeriod := d.lease, noticeLost := ((activate d s).port x).noticeLost,
      lease := if (s.port x).state = .active then .running (d.lease.toNat * 10000) else (s.port x).lease } := by
  obtain ⟨-, hport⟩ := offerBoth_spec (withDirectory d s) .configReady none x
  rw [withDirectory_port] at hport
  exact hport

end

/-- Settles O27: the four checks of COMMIT_DIRECTORY in their order, then the checked staging entries become active. -/
theorem commitDirectoryActivatesACheckedDirectory : Obligations.CommitDirectoryActivatesACheckedDirectory := by
  refine ⟨fun s p count lease ht => ?refuse, fun s p count lease es ht => ?accept⟩
  case refuse =>
    intro b i busy bad
    have run := exec_commitDirectory (b := b) ht rfl
    refine ⟨fun hp => ?_, fun hp hx => ?_, fun hp hc hl hbusy => ?_, fun k hp hc hl hbusy hk hbad hlow => ?_⟩
    · rw [doCommitDirectory, inStarted_of_loading hp] at run
      exact run
    · rw [doCommitDirectory_started hp, commit_badArg hx] at run
      exact run
    · have hq : b.quiet = false := Bool.eq_false_iff.mpr fun h => quiet_iff_not_busy.mp h hbusy
      rw [doCommitDirectory_started hp, commit_busy hc hl hq] at run
      exact run
    · have hbelow : ∀ j < k.val, ¬ faultAt [] (b.staged count.toNat) j := fun j hj =>
        mt (faultAt_staged_iff (k := ⟨j, hj.trans k.isLt⟩) (hj.trans hk)).mp (hlow ⟨j, hj.trans k.isLt⟩ hj)
      have hfault : stagingFault (b.staged count.toNat) 0 [] = some k.val := by
        rw [stagingFault_of_lowest ((faultAt_staged_iff hk).mpr hbad) hbelow, Nat.zero_add]
      rw [doCommitDirectory_started hp, commit_of_fault hc hl (quiet_iff_not_busy.mpr hbusy) hfault] at run
      exact run
  case accept =>
    intro b hp hl hlen hmax hstaged hdistinct hidle hdeferred
    have run := exec_commitDirectory (b := b) ht rfl
    rw [doCommitDirectory_started hp, commit_activates hmax hl (quiet_iff.mpr ⟨hidle, hdeferred⟩)
      (staged_eq_map_some hlen hmax hstaged) hdistinct] at run
    exact ⟨activate { entries := es, lease := lease } b, run, activate_same b _, activate_dsc b _,
      fun x => ⟨activate_offers b _ x, activate_port b _ x⟩⟩

end Sys2Proof.DirectoryCommands
end

section
/-! PROOFS. The fetch of a descriptor: one read is a check of the eight bytes at an address, and a fetch is a run of at most four
JUMPs before the read that finds (R25 to R27). -/

namespace Sys2Proof.Fetching

open Sys2Proof.Machine Sys2Proof.Laws Sys2Proof.UnitContexts

variable {purpose : FetchFor} {p : Port} {s : State} {d : Descriptor}

/-! ### The checks on a descriptor (R26) -/

theorem codeOk_iff {k : DescKind} {code : Byte} :
    codeOk k code = true ↔ (k ≠ .seg → 1 ≤ code.toNat ∧ code.toNat ≤ 0xFE) := by
  simp [codeOk, or_iff_not_imp_left]

theorem linkOk_iff {k : DescKind} {l : LinkField} : linkOk k l = true ↔ ¬ (k = .ctrl ∧ l = .nextSegment) := by
  simp [linkOk, imp_iff_not_or]

theorem areaOk_iff {k : DescKind} {addr count : Word} :
    areaOk k addr count = true ↔ (k ≠ .ctrl → addr.toNat ≤ 0x7FFF ∧ 1 ≤ count.toNat ∧ count.toNat ≤ 512 ∧
      addr.toNat % 512 + count.toNat ≤ 512) := by
  simp [areaOk, or_iff_not_imp_left, and_assoc]

theorem discardOk_iff {k : DescKind} {discard : Bool} :
    discardOk purpose k discard = true ↔ (discard = true → k = .input ∨ (k = .seg ∧ purpose = .segment .input)) := by
  cases discard <;> simp [discardOk]

theorem kindSuits_iff {k : DescKind} (hk : k ≠ .jump) :
    kindSuits purpose k = true ↔ (purpose = .order → k = .input ∨ k = .output ∨ k = .ctrl) ∧
      ∀ x, purpose = .segment x → k = .seg := by
  cases purpose <;> cases k <;> simp_all [kindSuits]

/-- The checks 2 to 7 of R26 that a descriptor found has passed. -/
def checked (purpose : FetchFor) (d : Descriptor) : Prop :=
  kindSuits purpose d.kind = true ∧ codeOk d.kind d.code = true ∧ linkOk d.kind d.link = true ∧
    areaOk d.kind d.addr d.count = true ∧ discardOk purpose d.kind d.discard = true

theorem checked_iff (hk : d.kind ≠ .jump) : checked purpose d ↔
    (purpose = .order → d.kind = .input ∨ d.kind = .output ∨ d.kind = .ctrl) ∧
    (∀ k, purpose = .segment k → d.kind = .seg) ∧
    (d.kind ≠ .seg → 1 ≤ d.code.toNat ∧ d.code.toNat ≤ 0xFE) ∧
    ¬ (d.kind = .ctrl ∧ d.link = .nextSegment) ∧
    (d.kind ≠ .ctrl → d.addr.toNat ≤ 0x7FFF ∧ 1 ≤ d.count.toNat ∧ d.count.toNat ≤ 512 ∧
      d.addr.toNat % 512 + d.count.toNat ≤ 512) ∧
    (d.discard = true → d.kind = .input ∨ (d.kind = .seg ∧ purpose = .segment .input)) := by
  rw [checked, kindSuits_iff hk, codeOk_iff, linkOk_iff, areaOk_iff, discardOk_iff, and_assoc]

/-- The descriptor that a raw one with this kind and link is. -/
def described (r : RawDescriptor) (k : DescKind) (l : LinkField) : Descriptor :=
  { kind := k, code := r.code, link := l, discard := r.discard, lengthOk := r.lengthOk, milestone := r.milestone,
    addr := r.addr, count := r.count }

theorem described_eq_iff {r : RawDescriptor} : r.kind = some d.kind ∧ r.link = some d.link ∧ described r d.kind d.link = d ↔
    r.kind = some d.kind ∧ r.code = d.code ∧ r.link = some d.link ∧ r.discard = d.discard ∧ r.lengthOk = d.lengthOk ∧
      r.milestone = d.milestone ∧ r.addr = d.addr ∧ r.count = d.count := by
  cases d
  simp only [described, Descriptor.mk.injEq, true_and]
  tauto

theorem judgeDescriptor_jump {r : RawDescriptor} {t : Word} :
    judgeDescriptor purpose r = .jump t ↔ r.kind = some .jump ∧ descriptorAddr t.toNat = true ∧ r.addr = t := by
  unfold judgeDescriptor
  split
  · simp_all
  · next hk =>
    split
    · next ha =>
      constructor
      · intro h; cases h; exact ⟨hk, ha, rfl⟩
      · rintro ⟨-, -, rfl⟩; rfl
    · next ha =>
      constructor
      · intro h; cases h
      · rintro ⟨-, hd, rfl⟩; exact absurd hd ha
  · next k hj hk =>
    have hn : r.kind ≠ some .jump := by rw [hk]; exact fun e => hj (Option.some.inj e)
    split
    · simp [hn]
    · split <;> simp [hn]

theorem judgeDescriptor_found {r : RawDescriptor} : judgeDescriptor purpose r = .found d ↔
    d.kind ≠ .jump ∧ (r.kind = some d.kind ∧ r.link = some d.link ∧ described r d.kind d.link = d) ∧ checked purpose d := by
  unfold judgeDescriptor
  split
  · next hk => simp [hk]
  · next hk =>
    have hne : ¬ (d.kind ≠ .jump ∧ r.kind = some d.kind) := by
      rw [hk]; rintro ⟨h1, h2⟩; exact h1 (Option.some.inj h2).symm
    split <;> simp <;> tauto
  · next k hj hk =>
    split
    · next hl => simp [hl]
    · next l hl =>
      simp only [hk, hl, Option.some.injEq]
      constructor
      · intro h
        split at h
        · next hc =>
          cases h
          simp only [Bool.and_eq_true, and_assoc] at hc
          exact ⟨hj, ⟨rfl, rfl, rfl⟩, hc⟩
        · cases h
      · rintro ⟨-, ⟨rfl, rfl, hd⟩, hc⟩
        rw [if_pos]
        · exact congrArg FetchRead.found hd
        · rw [← hd] at hc
          simp only [Bool.and_eq_true, and_assoc]
          exact hc

/-! ### One read (R25, R26) -/

theorem ofNat_toNat_of_descriptorAddr {a : Nat} (h : descriptorAddr a = true) : (BitVec.ofNat 16 a).toNat = a := by
  obtain ⟨-, ha⟩ := descriptorAddr_iff.mp h
  rw [BitVec.toNat_ofNat]
  omega

theorem fetchRead_jump {a : Nat} {t : Word} : fetchRead purpose p s a = .jump t ↔ jumpAt p s a t.toNat := by
  unfold fetchRead jumpAt
  rw [← and_assoc, ← descriptorAddr_iff]
  by_cases ha : descriptorAddr a = true
  · by_cases ho : s.pageOpen p (pageOf (BitVec.ofNat 16 a)) = true
    · simp only [ha, ho, if_true, judgeDescriptor_jump, descriptorAddr_iff, BitVec.toNat_inj, true_and]
      tauto
    · simp [ha, ho]
  · simp [ha]

theorem passesAt_iff {a : Nat} : passesAt purpose p s d a ↔
    descriptorAddr a = true ∧ s.pageOpen p (pageOf (BitVec.ofNat 16 a)) = true ∧
      judgeDescriptor purpose (s.descriptorAt (BitVec.ofNat 16 a)) = .found d := by
  have hjump : ((purpose = .order → d.kind = .input ∨ d.kind = .output ∨ d.kind = .ctrl) ∧
      ∀ k, purpose = .segment k → d.kind = .seg) → d.kind ≠ .jump := by
    rintro ⟨h1, h2⟩ hk
    cases purpose with
    | order => simp [hk] at h1
    | segment k => simpa [hk] using h2 k rfl
  rw [judgeDescriptor_found, described_eq_iff, descriptorAddr_iff]
  constructor
  · rintro ⟨h1, h2, h3, h4, h5, h6, h7, h8, h9, h10, h11, hrest⟩
    have hk := hjump ⟨hrest.1, hrest.2.1⟩
    exact ⟨⟨h1, h2⟩, h3, hk, ⟨h4, h5, h6, h7, h8, h9, h10, h11⟩, (checked_iff hk).mpr hrest⟩
  · rintro ⟨⟨h1, h2⟩, h3, hk, ⟨h4, h5, h6, h7, h8, h9, h10, h11⟩, hc⟩
    exact ⟨h1, h2, h3, h4, h5, h6, h7, h8, h9, h10, h11, (checked_iff hk).mp hc⟩

theorem fetchRead_found {a : Nat} : fetchRead purpose p s a = .found d ↔ passesAt purpose p s d a := by
  rw [passesAt_iff, fetchRead]
  by_cases ha : descriptorAddr a = true
  · by_cases ho : s.pageOpen p (pageOf (BitVec.ofNat 16 a)) = true <;> simp [ha, ho]
  · simp [ha]

/-! ### The run of JUMPs (R27) -/

theorem fetchFrom_jumps_le : ∀ (left a : Nat), (fetchFrom purpose p s left a).jumps ≤ 4
  | 0, a => by
    unfold fetchFrom
    split <;> exact le_refl _
  | left + 1, a => by
    unfold fetchFrom
    split
    · exact Nat.sub_le _ _
    · exact fetchFrom_jumps_le left _
    · exact Nat.sub_le _ _

theorem le_fetchFrom_jumps : ∀ (left a : Nat), 4 - left ≤ (fetchFrom purpose p s left a).jumps
  | 0, a => by
    unfold fetchFrom
    split <;> exact le_refl _
  | left + 1, a => by
    unfold fetchFrom
    split
    · exact le_refl _
    · next t _ => exact (Nat.sub_le_sub_left (Nat.le_succ left) 4).trans (le_fetchFrom_jumps left t.toNat)
    · exact le_refl _

theorem jumpAt_iff {a b : Nat} : jumpAt p s a b ↔ ∃ t : Word, fetchRead purpose p s a = .jump t ∧ t.toNat = b := by
  constructor
  · intro h
    have ⟨_, _, _, _, hb, _⟩ := h
    exact ⟨(s.descriptorAt (BitVec.ofNat 16 a)).addr, fetchRead_jump.mpr (hb ▸ h), hb⟩
  · rintro ⟨t, ht, rfl⟩
    exact fetchRead_jump.mp ht

/-- What a run of JUMPs and a descriptor at its end ask of the first read. -/
theorem lead_passes_iff {a : Word} {addr n : Nat} :
    jumpsLead p s n addr a.toNat ∧ passesAt purpose p s d a.toNat ↔
      (n = 0 ∧ fetchRead purpose p s addr = .found d ∧ BitVec.ofNat 16 addr = a) ∨
        ∃ m t, n = m + 1 ∧ fetchRead purpose p s addr = .jump t ∧ jumpsLead p s m t.toNat a.toNat ∧
          passesAt purpose p s d a.toNat := by
  cases n with
  | zero =>
    constructor
    · rintro ⟨h, hp⟩
      have h : addr = a.toNat := h
      subst h
      exact .inl ⟨rfl, fetchRead_found.mpr hp, by simp⟩
    · rintro (⟨-, hf, rfl⟩ | ⟨m, t, hm, -⟩)
      · have hp := fetchRead_found.mp hf
        have ha := ofNat_toNat_of_descriptorAddr (passesAt_iff.mp hp).1
        rw [ha]
        exact ⟨rfl, hp⟩
      · cases hm
  | succ m =>
    constructor
    · rintro ⟨⟨b, hj, hl⟩, hp⟩
      obtain ⟨t, ht, rfl⟩ := jumpAt_iff.mp hj
      exact .inr ⟨m, t, rfl, ht, hl, hp⟩
    · rintro (⟨hm, -⟩ | ⟨m', t, hm, ht, hl, hp⟩)
      · cases hm
      · cases hm
        exact ⟨⟨t.toNat, jumpAt_iff.mpr ⟨t, ht, rfl⟩, hl⟩, hp⟩

/-- A fetch with `left` JUMPs still allowed finds what a run of no more JUMPs leads to. -/
theorem fetchFrom_found_iff {a : Word} {left addr n : Nat} (hle : left ≤ 4) :
    (fetchFrom purpose p s left addr).found = some (d, a) ∧ (fetchFrom purpose p s left addr).jumps = 4 - left + n ↔
      n ≤ left ∧ jumpsLead p s n addr a.toNat ∧ passesAt purpose p s d a.toNat := by
  induction left generalizing addr n with
  | zero =>
    rw [lead_passes_iff, fetchFrom]
    cases fetchRead purpose p s addr <;> simp [Config.maxJumps]
    · grind
    · omega
  | succ left ih =>
    rw [lead_passes_iff, fetchFrom]
    cases fetchRead purpose p s addr with
    | fail => simp
    | found d' => simp [Config.maxJumps]; grind
    | jump t =>
      have hmin := le_fetchFrom_jumps (purpose := purpose) (p := p) (s := s) left t.toNat
      cases n with
      | zero =>
        have hne : (fetchFrom purpose p s left t.toNat).jumps ≠ 3 - left := by omega
        simp [hne]
      | succ m =>
        have hj : 3 - left + (m + 1) = 4 - left + m := by omega
        simp [hj, ih (Nat.le_of_succ_le hle)]

/-! ### What a fetch yields -/

theorem fetch_found_iff {start : Nat} {a : Word} {n : Nat} :
    (fetch purpose p s start).found = some (d, a) ∧ (fetch purpose p s start).jumps = n ↔
      n ≤ 4 ∧ jumpsLead p s n start a.toNat ∧ passesAt purpose p s d a.toNat := by
  have h := fetchFrom_found_iff (purpose := purpose) (p := p) (s := s) (d := d) (a := a) (addr := start) (n := n) (le_refl 4)
  rwa [Nat.sub_self, Nat.zero_add] at h

/-- What a fetch has found stands at its address and has passed the checks. -/
theorem passesAt_of_fetch {start : Nat} {a : Word} (h : (fetch purpose p s start).found = some (d, a)) :
    passesAt purpose p s d a.toNat :=
  (fetch_found_iff.mp ⟨h, rfl⟩).2.2

/-- A descriptor that passes its checks has its data area in one page. -/
theorem areaFits_of_passesAt {a : Nat} (h : passesAt purpose p s d a) : d.areaFits := by
  obtain ⟨-, -, -, -, -, -, -, -, -, -, -, -, -, -, -, harea, -⟩ := h
  by_cases hk : d.kind = .ctrl
  · exact .inl hk
  · obtain ⟨h1, h2, -, h3⟩ := harea hk
    exact .inr (.inr ⟨h1, h2, h3⟩)

theorem areaFits_of_fetch {start : Nat} {a : Word} (h : (fetch purpose p s start).found = some (d, a)) : d.areaFits :=
  areaFits_of_passesAt (passesAt_of_fetch h)

theorem seg_of_fetch {k : DescKind} {start : Nat} {a : Word}
    (h : (fetch (.segment k) p s start).found = some (d, a)) : d.kind = .seg := by
  obtain ⟨-, -, -, -, -, -, -, -, -, -, -, -, hseg, -⟩ := passesAt_of_fetch h
  exact hseg k rfl

/-- Settles O51: a read is a check of eight bytes, and the run of JUMPs before it is counted down. -/
theorem aFetchYieldsOnlyCheckedDescriptors : Obligations.AFetchYieldsOnlyCheckedDescriptors := by
  refine fun purpose p s start => ⟨fetchFrom_jumps_le _ _, fun d a h => ?_, fun d a n => fetch_found_iff⟩
  have hp := passesAt_of_fetch h
  obtain ⟨ha, ho, hj⟩ := passesAt_iff.mp hp
  obtain ⟨hk, -, hsuits, -⟩ := judgeDescriptor_found.mp hj
  have ⟨h8, hmax, _, _, _, _, _, _, _, _, _, _, _, hcode, hlink, _, hdiscard⟩ := hp
  rw [BitVec.ofNat_toNat, BitVec.setWidth_eq] at ho
  exact ⟨h8, hmax, ho, hsuits, hk, areaFits_of_passesAt hp, hcode, hlink, hdiscard⟩

end Sys2Proof.Fetching
end

section
/-! PROOFS. What a step can do, said once: every command is a chain of acts, each an update of the state with the guard under
which the commands make it. An invariant then needs one case for each act, and none for each command. -/

namespace Sys2Proof.StepActs

open Sys2Proof.Machine Sys2Proof.Laws

/-! ### What an act may do to one port, one context and the directory controller -/

/-- A port interface keeps the form of its lease in a part state (R135 to R138). -/
def leaseOk (part : PartState) (x : PortIf) : Prop :=
  x.lapseCount ≤ Config.maxLapses ∧ (x.state = .lapsed → x.lease = .stopped) ∧
    (part = .loading → x.state = .active ∧ x.lease = .stopped)

/-- The segment, the descriptor and the lookahead of a context keep within their pages (R23, R57). -/
def inPage (c : Context) : Prop :=
  (∀ g ∈ c.seg, g.fits) ∧ (∀ d ∈ c.desc, d.areaFits) ∧
    ∀ d a, c.lookahead = .present d a → d.kind = .seg ∧ d.areaFits

/-- What a chain of acts may assume and do: whether a DAT in flight is no longer than what its segment has left (R40), and whether
data may move, so that a context's segment changes. -/
structure Scope where
  dat : Prop
  moves : Prop

/-- Nothing is assumed of a DAT in flight, and data may move. -/
def Scope.moving : Scope := { dat := False, moves := True }

/-- A change of one context that leaves every list of contexts and every page's use as they were, and the link's service of the
context too. -/
structure Kept (D : Scope) (c c' : Context) : Prop where
  agrees : ∀ u, c.agrees u → c'.agrees u
  idle : c.state = .idle → c'.state = .idle
  queued : c'.state = .queued ↔ c.state = .queued
  stop : c'.state = .disconnected ∧ c'.halt ≠ none ↔ c.state = .disconnected ∧ c.halt ≠ none
  stopQueued : c'.stopQueued = c.stopQueued
  held : ∀ p, c'.state = .held ∧ c'.owner = some p ↔ c.state = .held ∧ c.owner = some p
  page : c'.seg.map Segment.page = c.seg.map Segment.page
  fits : D.dat → inPage c → inPage c'
  seg : ¬ D.moves → c'.seg = c.seg

/-- A change of the directory controller that takes no context from a part that is READY and keeps what a load attempt stands
for. -/
structure DscKept (d d' : Dsc) : Prop where
  loading : d'.part = .loading → d.part = .loading
  load : (d.load = .first ∨ d.load = .second → d.part = .loading) →
    (d'.load = .first ∨ d'.load = .second → d'.part = .loading) ∧ (d'.part ≠ .ready → d.part ≠ .ready)

/-- A change of the directory controller that keeps what a reset in progress stands for (R153). -/
def phaseKept (d d' : Dsc) : Prop :=
  d'.phase ≠ .none → d.phase ≠ .none ∧ (d.part = .loading ∧ d.load = .none → d'.part = .loading ∧ d'.load = .none)

/-- What a segment that is to become current brings: its bytes lie in one page (R23). -/
def area (a : Word) (n : Nat) : Prop := a.toNat ≤ 0x7FFF ∧ a.toNat % 512 + n ≤ 512

/-- The contexts of a port are cleared or halted, and its queue, counter and held list emptied (R148). -/
def clearPort (p : Port) (s : State) : State :=
  ((((s.ownedBy p).foldl (fun s u => portResetContext u s) s).setHeldList p []).setQueue p []).setSeqNo p 0

/-- A context that a START queues (R17). -/
def queueStart (p : Port) (u : UnitAddr) (d : Descriptor) (a : Word) (jumps : Nat) (s : State) : State :=
  ((ceaseSegment u s).modCtx u (fun _ =>
    { state := .queued, owner := some p, desc := some d, descAddr := some a, jumps := jumps })).modSelectQ (fun q => q ++ [u])

/-- A context that a chain queues again (R10, R45). -/
def queueChained (u : UnitAddr) (d : Descriptor) (a : Word) (s : State) : State :=
  ((ceaseSegment u s).modCtx u (fun c =>
    { c with state := .queued, desc := some d, descAddr := some a, lookahead := .absent, unitStatus := none,
             silence := .stopped })).modSelectQ (fun q => q ++ [u])

/-- A HELD context goes to the adopter with its record (R145). -/
def adoptHeld (y : Port) (u : UnitAddr) (s : State) : State :=
  let s1 := (s.modCtx u (fun c => { c with owner := some y, adopted := true })).setHeldList y.peer
    (without u (s.heldList y.peer))
  match (s.ctx u).heldRecord with
  | none => goIdle u s1
  | some r =>
    let r1 : Completion := { r with owner := y, conds := r.conds.add .adopted }
    if s1.queueFull y then
      (s1.modCtx u (fun c => { c with heldRecord := some r1 })).setHeldList y (s1.heldList y ++ [u])
    else goIdle u (enqueue y (.completion r1) s1)

/-- The segment of a context is replaced by another one, the new page counted before the old one is let go (R31, R32). -/
def replaceSegment (u : UnitAddr) (a : Word) (n : Nat) (s : State) : State :=
  ((s.raisePage (pageOf a)).lowerSeg (s.ctx u).seg).modCtx u
    (fun c => { c with seg := some { addr := a, remaining := n, page := pageOf a } })

/-! ### Acts -/

/-- The acts that leave LNK, and the contexts it serves, as they are. -/
inductive Quiet (D : Scope) : State → State → Prop
  | port {s : State} (p : Port) (f : PortIf → PortIf) (h : leaseOk s.dsc.part (s.port p) → leaseOk s.dsc.part (f (s.port p))) :
      Quiet D s (s.modPort p f)
  | place {s : State} (p : Port) (b : RecordBody) (h : roomIn s p) : Quiet D s (enqueue p b s)
  | remove {s : State} (p : Port) (h : s.queue p ≠ []) : Quiet D s (removeHead p s)
  | defer {s : State} (l : List UnitAddr) (h : s.rcm.deferred.Nodup → l.Nodup) : Quiet D s (s.setDeferred l)
  | tag {s : State} (t : Tag) (qs : List PageNo) (h : t = .free → ∀ q ∈ qs, (s.page q).uses = 0) :
      Quiet D s (s.tagPages t qs)
  | write {s : State} (a : Word) (bs : List Byte) : Quiet D s (s.writeBytes a bs)
  | ctx {s : State} (u : UnitAddr) (f : Context → Context) (h : Kept D (s.ctx u) (f (s.ctx u)))
      (served : (f (s.ctx u)).state = (s.ctx u).state) : Quiet D s (s.modCtx u f)
  | current {s : State} (u : UnitAddr) (p : Port) (a : Word) (n : Nat) (hs : (s.ctx u).onLink)
      (ho : s.pageOpen p (pageOf a) = true) (ha : inPage (s.ctx u) → area a n) (hm : D.moves) : Quiet D s (replaceSegment u a n s)
  | start {s : State} (p : Port) (u : UnitAddr) (d : Descriptor) (a : Word) (jumps : Nat) (hr : s.dsc.part = .ready)
      (hs : (s.ctx u).state = .idle) (hd : d.areaFits) : Quiet D s (queueStart p u d a jumps s)
  | halt {s : State} (u : UnitAddr) (cause : HaltCause) (hs : (s.ctx u).onLink) : Quiet D s (haltOnLink u cause s)
  | finishQueued {s : State} (u : UnitAddr) (n : Nat) (f : Context → Context) (hs : (s.ctx u).state = .queued)
      (hf : ∀ c, (f c).seg = c.seg) : Quiet D s (endOrder u n (s.modCtx u f))
  | adoptHeld {s : State} (y : Port) (u : UnitAddr) (hs : (s.ctx u).state = .held) (ho : (s.ctx u).owner = some y.peer) :
      Quiet D s (adoptHeld y u s)
  | clearPort {s : State} (p : Port) : Quiet D s (clearPort p s)
  | dsc {s : State} (f : Dsc → Dsc) (h : DscKept s.dsc (f s.dsc)) (hp : phaseKept s.dsc (f s.dsc)) :
      Quiet D s (s.modDsc f)

/-- The acts of a port's rows: those that leave LNK alone, LINK_RESET and the agreed part reset. -/
inductive PortAct (D : Scope) : State → State → Prop
  | quiet {s t : State} (h : Quiet D s t) : PortAct D s t
  | linkReset (s : State) (h : s.dsc.part ≠ .loading) : PortAct D s (linkResetSteps s)
  | agreed (s : State) : PortAct D s (takeAgreedReset s)

/-- The acts of a step. -/
inductive Act (D : Scope) : State → State → Prop
  | quiet {s t : State} (h : Quiet D s t) : Act D s t
  | lnk {s : State} (f : Lnk → Lnk) : Act D s (s.modLnk f)
  | dsc {s : State} (f : Dsc → Dsc) (h : DscKept s.dsc (f s.dsc)) : Act D s (s.modDsc f)
  | ctx {s : State} (u : UnitAddr) (f : Context → Context) (h : Kept D (s.ctx u) (f (s.ctx u))) : Act D s (s.modCtx u f)
  | finish {s : State} (u : UnitAddr) (n : Nat) (f : Context → Context) (hs : (s.ctx u).inProgress = true)
      (hf : ∀ c, (f c).seg = c.seg) : Act D s (endOrder u n (s.modCtx u f))
  | chain {s : State} (u : UnitAddr) (d : Descriptor) (a : Word) (hs : (s.ctx u).state = .connected)
      (hh : (s.ctx u).halt = none) (hd : d.areaFits) : Act D s (queueChained u d a s)
  | selectHalt {s : State} (u : UnitAddr) (rest : List UnitAddr) (h : s.ctb.stopQ = u :: rest) :
      Act D s (enterSelecting u (s.modStopQ (fun _ => rest)))
  | selectQueued {s : State} (u : UnitAddr) (rest : List UnitAddr) (h : s.ctb.selectQ = u :: rest) :
      Act D s (enterSelecting u (s.modSelectQ (fun _ => rest)))
  | disconnect {s : State} (u : UnitAddr) (h : (s.ctx u).state = .selecting ∨ (s.ctx u).state = .connected) :
      Act D s (enterDisconnected u s)
  | connect {s : State} (u : UnitAddr) (h : (s.ctx u).state = .disconnected) : Act D s (connect u s)
  | clearQueues {s : State} (h : ∀ u, (s.ctx u).inProgress = false) :
      Act D s ((s.modSelectQ (fun _ => [])).modStopQ (fun _ => []))
  | reset {s : State} (cause : ResetCause) : Act D s (resetBlocks cause s)

/-- A chain of acts that leave LNK alone. -/
abbrev Quiets (D : Scope) : State → State → Prop := Relation.ReflTransGen (Quiet D)

/-- A chain of acts of a port's rows. -/
abbrev PortActs (D : Scope) : State → State → Prop := Relation.ReflTransGen (PortAct D)

/-- A chain of acts. -/
abbrev Acts (D : Scope) : State → State → Prop := Relation.ReflTransGen (Act D)

theorem Quiets.acts {D : Scope} {s t : State} (h : Quiets D s t) : Acts D s t :=
  Relation.ReflTransGen.mono (fun _ _ => Act.quiet) _ _ h

theorem Quiets.portActs {D : Scope} {s t : State} (h : Quiets D s t) : PortActs D s t :=
  Relation.ReflTransGen.mono (fun _ _ => PortAct.quiet) _ _ h

end Sys2Proof.StepActs
end

section
/-! PROOFS. The shared operations of RCM and CTB as chains of acts. -/

namespace Sys2Proof.StepActs

open Sys2Proof.Machine Sys2Proof.Laws Sys2Proof.Fetching

/-! ### Which changes of a context are kept -/

section
variable {D : Scope} {c c' : Context}

/-- A change of what a context in use notes for its record. -/
theorem Kept.of_notes (live : c.state ≠ .idle ∨ c.owner ≠ none)
    (h : c' = { c with conds := c'.conds, milestoneMissed := c'.milestoneMissed, unitStatus := c'.unitStatus,
                       jumps := c'.jumps }) : Kept D c c' := by
  rw [h]
  refine ⟨fun u hc => ?_, id, .rfl, .rfl, rfl, fun _ => .rfl, rfl, fun _ => id, fun _ => rfl⟩
  obtain ⟨howner, -, hrest⟩ := hc
  have hi : c.state ≠ .idle := live.elim id (fun ho hi => ho (howner.mpr hi))
  exact ⟨howner, fun h => absurd h hi, hrest⟩

theorem not_idle_of_onLink (h : c.onLink) : c.state ≠ .idle ∧ c.state ≠ .queued ∧ c.state ≠ .held := by
  rcases h with h | h | h <;> simp [h]

theorem inProgress_of_onLink (h : c.onLink) : c.inProgress = true := by
  rcases h with h | h | h <;> simp [Context.inProgress, h]

/-- A change of a context that has reached the link and stays there, in its state or accepted by its unit. -/
theorem Kept.of_onLink (hc : c.onLink)
    (state : c'.state = c.state ∨ c.state = .selecting ∧ c'.state = .connected)
    (owner : c.owner ≠ none → c'.owner ≠ none) (desc : c'.desc.isSome = c.desc.isSome)
    (heldRecord : c'.heldRecord = c.heldRecord) (discard : c'.discard = true → c.discard = true)
    (halt : c.halt ≠ none → c'.halt ≠ none) (stop : c.state = .disconnected → c'.halt = c.halt)
    (stopQueued : c'.stopQueued = c.stopQueued)
    (silence : c'.silence.runs = true → c.silence.runs = true ∨ c.state = .disconnected)
    (page : c'.seg.map Segment.page = c.seg.map Segment.page) (fits : D.dat → inPage c → inPage c')
    (seg : ¬ D.moves → c'.seg = c.seg := by exact fun _ => rfl) : Kept D c c' := by
  have hc' : c'.onLink := by
    rcases state with h | ⟨-, h⟩
    · rwa [Context.onLink, h]
    · exact .inr (.inl h)
  obtain ⟨hi, hq, hh⟩ := not_idle_of_onLink hc
  obtain ⟨hi', hq', hh'⟩ := not_idle_of_onLink hc'
  have hdis : c'.state = .disconnected ↔ c.state = .disconnected := by
    rcases state with h | ⟨h, h'⟩ <;> simp [*]
  refine ⟨fun u ha => ?_, fun h => absurd h hi, iff_of_false hq' hq, ?_, stopQueued,
    fun p => iff_of_false (fun h => hh' h.1) (fun h => hh h.1), page, fits, seg⟩
  · obtain ⟨howner, -, hdesc, ⟨hheld, -⟩, -, hdiscard, hsilence⟩ := ha
    have hr : c.heldRecord = none := by
      rw [← Option.not_isSome_iff_eq_none, hheld]; exact hh
    refine ⟨iff_of_false (owner (fun h => hi (howner.mp h))) hi', fun h => absurd h hi', ?_, ⟨?_, ?_⟩, fun _ => hc',
      fun h => ⟨halt (hdiscard (discard h)).1, hc'⟩, fun h => hdis.mpr ((silence h).elim hsilence id)⟩
    · rw [desc, hdesc, inProgress_of_onLink hc, inProgress_of_onLink hc']
    · rw [heldRecord, hr]; simpa using hh'
    · rw [heldRecord, hr]; simp
  · rw [hdis]
    exact and_congr_right fun h => by rw [stop h]

end

/-! ### Records and notices -/

section
variable {D : Scope} {s : State}

theorem Quiets.one {t : State} (h : Quiet D s t) : Quiets D s t := .single h

theorem offerNotice_quiets (p : Port) (code : NoticeCode) (arg : Option Nat) (s : State) :
    Quiets D s (offerNotice p code arg s) := by
  unfold offerNotice
  split
  · exact .one (.port p _ id)
  · next h => exact .one (.place p _ ((queueFull_eq_false s p).mp (Bool.eq_false_iff.mpr h)))

theorem offerBoth_quiets (code : NoticeCode) (arg : Option Nat) (s : State) : Quiets D s (offerBoth code arg s) :=
  (offerNotice_quiets .a code arg s).trans (offerNotice_quiets .b code arg _)

theorem offerMilestone_quiets (u : UnitAddr) (a : Word) (s : State) : Quiets D s (offerMilestone u a s) := by
  unfold offerMilestone
  split
  · exact .refl
  · next p ho =>
    split
    · exact .one (.ctx u _ (.of_notes (.inr (by simp [ho])) rfl) rfl)
    · next h => exact .one (.place p _ ((queueFull_eq_false s p).mp (Bool.eq_false_iff.mpr h)))

theorem placeAttention_quiets {u : UnitAddr} (st : UStatus) (h : s.targetFull u = false) :
    Quiets D s (placeAttention u st s) := by
  unfold placeAttention
  unfold State.targetFull at h
  split
  · exact .refl
  · next p ho =>
    rw [ho] at h
    exact .one (.place p _ ((queueFull_eq_false s p).mp h))

theorem without_nodup {l : List UnitAddr} (u : UnitAddr) (h : l.Nodup) : (without u l).Nodup := h.filter _

theorem not_mem_without (u : UnitAddr) (l : List UnitAddr) : u ∉ without u l := by simp [without]

theorem append_nodup {l : List UnitAddr} {u : UnitAddr} (hu : u ∉ l) (h : l.Nodup) : (l ++ [u]).Nodup := by
  simp [List.nodup_append, h]
  rintro v hv rfl
  exact hu hv

theorem takeUnsolicited_quiets (u : UnitAddr) (st : UStatus) (s : State) : Quiets D s (takeUnsolicited u st s).1 := by
  unfold takeUnsolicited
  split
  · exact .refl
  · next hu =>
    split
    · exact .one (.defer _ (append_nodup hu))
    · next h => exact placeAttention_quiets st (Bool.eq_false_iff.mpr h)

theorem takeDeferred_quiets (u : UnitAddr) (st : UStatus) (s : State) : Quiets D s (takeDeferred u st s).1 := by
  unfold takeDeferred
  split
  · exact .one (.defer _ (fun h => append_nodup (not_mem_without u _) (without_nodup u h)))
  · next h => exact (placeAttention_quiets st (Bool.eq_false_iff.mpr h)).tail (.defer _ (without_nodup u))

theorem offerStray_quiets (u : UnitAddr) (s : State) : Quiets D s (offerStray u s) := offerBoth_quiets _ _ s

theorem recallLost_quiets (u : UnitAddr) (s : State) : Quiets D s (recallLost u s) :=
  (Quiets.one (.defer _ (without_nodup u))).trans (offerStray_quiets u _)

end

/-! ### Data of a CONNECTED context -/

/-- What a segment has left still lies in its page once it has moved on (R57). -/
theorem fits_advance {g : Segment} {n : Nat} (h : g.fits) (hn : n ≤ g.remaining) :
    Segment.fits { g with addr := g.addr + BitVec.ofNat 16 n, remaining := g.remaining - n } := by
  obtain ⟨h1, h2⟩ := h
  have hp := g.page.isLt
  have ha : (g.addr + BitVec.ofNat 16 n).toNat = g.addr.toNat + n := by
    rw [BitVec.toNat_add, BitVec.toNat_ofNat]; omega
  simp only [Segment.fits, ha]
  omega

theorem advanceSegment_quiets {D : Scope} {s : State} {u : UnitAddr} {n : Nat}
    (hn : D.dat → ∀ g ∈ (s.ctx u).seg, n ≤ g.remaining) (hm : D.moves) : Quiets D s (advanceSegment u n s) := by
  refine .single (.ctx u _ ⟨fun v hc => ?_, id, .rfl, .rfl, rfl, fun _ => .rfl, ?_, ?_, fun h => absurd hm h⟩ rfl)
  · obtain ⟨h1, h2, h3, h4, h5, h6⟩ := hc
    refine ⟨h1, fun hi => ?_, h3, h4, fun hg => h5 fun h => hg (by rw [h]; rfl), h6⟩
    rw [h2 hi]
    rfl
  · cases (s.ctx u).seg <;> rfl
  · rintro hd ⟨h1, h2, h3⟩
    refine ⟨fun g' hg' => ?_, h2, h3⟩
    obtain ⟨g, hg, rfl⟩ := Option.map_eq_some_iff.mp hg'
    exact fits_advance (h1 g hg) (hn hd g hg)

section
variable {D : Scope} {s : State} {u v : UnitAddr}

@[simp] theorem offerMilestone_state (a : Word) : ((offerMilestone u a s).ctx v).state = (s.ctx v).state := by
  unfold offerMilestone
  (repeat' split) <;> simp
  split <;> simp_all

@[simp] theorem dataFault_ctx (x : Cond) :
    (dataFault u x s).ctx v = if v = u then ((s.ctx u).gain x).requestHalt .storeFault else s.ctx v := by
  simp [dataFault]

theorem becomeCurrent_of_open {p : Port} {a : Word} {n : Nat} (ho : (s.ctx u).owner = some p)
    (hp : s.pageOpen p (pageOf a) = true) : becomeCurrent u a n s = (replaceSegment u a n s, true) := by
  simp [becomeCurrent, ho, hp, replaceSegment]

theorem becomeCurrent_of_closed {a : Word} {n : Nat}
    (h : ∀ p, (s.ctx u).owner = some p → s.pageOpen p (pageOf a) = false) :
    becomeCurrent u a n s = (dataFault u .storeFault s, false) := by
  unfold becomeCurrent
  split
  · rfl
  · next p ho => simp [h p ho]

theorem becomeCurrent_cases (u : UnitAddr) (a : Word) (n : Nat) (s : State) :
    (∃ p, (s.ctx u).owner = some p ∧ s.pageOpen p (pageOf a) = true ∧
      becomeCurrent u a n s = (replaceSegment u a n s, true)) ∨
      becomeCurrent u a n s = (dataFault u .storeFault s, false) := by
  by_cases h : ∃ p, (s.ctx u).owner = some p ∧ s.pageOpen p (pageOf a) = true
  · obtain ⟨p, ho, hp⟩ := h
    exact .inl ⟨p, ho, hp, becomeCurrent_of_open ho hp⟩
  · exact .inr (becomeCurrent_of_closed fun p ho => Bool.eq_false_iff.mpr fun hp => h ⟨p, ho, hp⟩)

@[simp] theorem replaceSegment_ctx (a : Word) (n : Nat) : (replaceSegment u a n s).ctx v =
    if v = u then { s.ctx u with seg := some { addr := a, remaining := n, page := pageOf a } } else s.ctx v := by
  simp [replaceSegment]

@[simp] theorem becomeCurrent_state (a : Word) (n : Nat) :
    ((becomeCurrent u a n s).1.ctx v).state = (s.ctx v).state := by
  rcases becomeCurrent_cases u a n s with ⟨p, -, -, h⟩ | h <;> rw [h] <;> by_cases hv : v = u <;>
    simp [hv, Context.gain, Context.requestHalt]

/-- The trigger does nothing, or it looks ahead: a SEG found is present, else the lookahead is faulted (R34, R35). -/
theorem testLookahead_cases (u : UnitAddr) (s : State) : testLookahead u s = s ∨ ∃ (l : Lookahead) (n : Nat),
    (∀ d a, l = .present d a → d.kind = .seg ∧ d.areaFits) ∧
      testLookahead u s = s.modCtx u (fun c => { c with lookahead := l, jumps := n }) := by
  unfold testLookahead
  split
  · split
    · exact .inl rfl
    · next p ho =>
      dsimp only
      split
      · next d a hf =>
        refine .inr ⟨.present d a, _, ?_, rfl⟩
        rintro d' a' ⟨⟩
        exact ⟨seg_of_fetch hf, areaFits_of_fetch hf⟩
      · exact .inr ⟨.faulted, _, nofun, rfl⟩
  · exact .inl rfl

@[simp] theorem testLookahead_state : ((testLookahead u s).ctx v).state = (s.ctx v).state := by
  rcases testLookahead_cases u s with h | ⟨l, n, -, h⟩ <;> rw [h]
  by_cases hv : v = u <;> simp [hv]

@[simp] theorem firstSegment_state : ((firstSegment u s).ctx v).state = (s.ctx v).state := by
  unfold firstSegment
  (repeat' split) <;> simp

/-- The SEG found has become current, its MILESTONE not yet offered (R31, R33). -/
def switched (u : UnitAddr) (d : Descriptor) (a : Word) (s : State) : State :=
  (replaceSegment u d.addr d.count.toNat s).modCtx u (fun c =>
    { c with desc := c.desc.map (fun cur => cur.follow d), descAddr := some a, lookahead := .absent })

theorem switchTo_of_open {d : Descriptor} {p : Port} (a : Word) (ho : (s.ctx u).owner = some p)
    (hp : s.pageOpen p (pageOf d.addr) = true) : switchTo u d a s =
      (if d.milestone then offerMilestone u a (switched u d a s) else switched u d a s, true) := by
  simp [switchTo, becomeCurrent_of_open ho hp, switched]

theorem switchTo_of_closed {d : Descriptor} (a : Word)
    (h : becomeCurrent u d.addr d.count.toNat s = (dataFault u .storeFault s, false)) : switchTo u d a s =
      ((dataFault u .storeFault s).modCtx u (fun c => { c with lookahead := .absent }), false) := by
  simp [switchTo, h]

/-- A switch is made, or its page check fails (R31, R38). -/
theorem switchTo_cases (u : UnitAddr) (d : Descriptor) (a : Word) (s : State) :
    (∃ p, (s.ctx u).owner = some p ∧ s.pageOpen p (pageOf d.addr) = true ∧ switchTo u d a s =
      (if d.milestone then offerMilestone u a (switched u d a s) else switched u d a s, true)) ∨
    switchTo u d a s = ((dataFault u .storeFault s).modCtx u (fun c => { c with lookahead := .absent }), false) := by
  rcases becomeCurrent_cases u d.addr d.count.toNat s with ⟨p, ho, hp, -⟩ | h
  · exact .inl ⟨p, ho, hp, switchTo_of_open a ho hp⟩
  · exact .inr (switchTo_of_closed a h)

@[simp] theorem switchTo_state (d : Descriptor) (a : Word) : ((switchTo u d a s).1.ctx v).state = (s.ctx v).state := by
  rcases switchTo_cases u d a s with ⟨p, -, -, h⟩ | h <;> rw [h]
  · by_cases hv : v = u <;> split <;> simp [switched, hv]
  · by_cases hv : v = u <;> simp [hv, Context.gain, Context.requestHalt]

@[simp] theorem placeSome_ctx (g : Segment) (bs : List Byte) : (placeSome u g bs s).ctx v =
    if v = u then { s.ctx u with
      seg := some { g with addr := g.addr + BitVec.ofNat 16 bs.length, remaining := g.remaining - bs.length } }
    else s.ctx v := by
  simp only [placeSome]
  (repeat' split) <;> simp_all

@[simp] theorem overrun_state : ((overrun u s).ctx v).state = (s.ctx v).state := by
  unfold overrun
  by_cases hv : v = u <;> (repeat' split) <;> simp [hv, Context.gain]

@[simp] theorem ensureSegment_state : ((ensureSegment u s).ctx v).state = (s.ctx v).state := by
  unfold ensureSegment
  split <;> simp

/-- The area of a SEG. -/
theorem area_of_seg {d : Descriptor} (hk : d.kind = .seg) (hf : d.areaFits) : area d.addr d.count.toNat := by
  rcases hf with hc | hc | ⟨h1, -, h2⟩
  · simp [hk] at hc
  · simp [hk] at hc
  · exact ⟨h1, h2⟩

theorem follow_areaFits {d x : Descriptor} (hk : x.kind = .seg) (hx : x.areaFits) : (d.follow x).areaFits := by
  rcases hx with hc | hc | h
  · simp [hk] at hc
  · simp [hk] at hc
  · exact .inr (.inr h)

/-- A SEG that a context can switch to: the one it has looked ahead, or one just fetched. -/
def SuppliesNext (d : Descriptor) (a : Word) (c : Context) : Prop :=
  c.lookahead = .present d a ∨ d.kind = .seg ∧ d.areaFits

theorem SuppliesNext.of_inPage {d : Descriptor} {a : Word} {c : Context} (h : SuppliesNext d a c) (hi : inPage c) :
    d.kind = .seg ∧ d.areaFits := by
  obtain ⟨-, -, hl⟩ := hi
  exact h.elim (hl d a) id

theorem onLink_of_connected {c : Context} (h : c.state = .connected) : c.onLink := .inr (.inl h)

variable (hs : (s.ctx u).state = .connected)
include hs

theorem dataFault_quiets (x : Cond) : Quiets D s (dataFault u x s) := by
  refine .one (.ctx u _ (.of_onLink (onLink_of_connected hs) (.inl rfl) id rfl rfl id ?_ ?_ rfl .inl rfl fun _ => id) rfl)
  · intro _; simp [Context.requestHalt]
  · simp [hs]

theorem becomeCurrent_quiets (hm : D.moves) (a : Word) (n : Nat) (ha : inPage (s.ctx u) → area a n) :
    Quiets D s (becomeCurrent u a n s).1 := by
  rcases becomeCurrent_cases u a n s with ⟨p, -, hp, h⟩ | h <;> rw [h]
  · exact .one (.current u p a n (onLink_of_connected hs) hp ha hm)
  · exact dataFault_quiets hs .storeFault

theorem testLookahead_quiets : Quiets D s (testLookahead u s) := by
  rcases testLookahead_cases u s with h | ⟨l, n, hl, h⟩ <;> rw [h]
  refine .one (.ctx u _ (.of_onLink (onLink_of_connected hs) (.inl rfl) id rfl rfl id id (fun _ => rfl) rfl .inl rfl ?_) rfl)
  rintro - ⟨h1, h2, -⟩
  exact ⟨h1, h2, hl⟩

theorem firstSegment_quiets (hm : D.moves) : Quiets D s (firstSegment u s) := by
  unfold firstSegment
  split
  · exact .refl
  · next d hd =>
    split
    · next hk =>
      refine (becomeCurrent_quiets hs hm _ _ fun ⟨_, h, _⟩ => ?_).trans (testLookahead_quiets (by simpa using hs))
      rcases h d (by simp [hd]) with hc | hc | ⟨h1, -, h2⟩
      · simp [hc] at hk
      · simp [hc] at hk
      · exact ⟨h1, h2⟩
    · exact .refl

theorem switched_quiets (hm : D.moves) {d : Descriptor} {a : Word} (p : Port) (hp : s.pageOpen p (pageOf d.addr) = true)
    (hd : SuppliesNext d a (s.ctx u)) : Quiets D s (switched u d a s) := by
  refine (Quiets.one (.current u p _ _ (onLink_of_connected hs) hp (fun hi => ?_) hm)).tail (.ctx u _
    (.of_onLink (onLink_of_connected (by simpa using hs)) (.inl rfl) id (by simp) rfl id id (fun _ => rfl) rfl .inl rfl ?_) rfl)
  · obtain ⟨hk, hf⟩ := hd.of_inPage hi
    exact area_of_seg hk hf
  · rintro - ⟨h1, h2, h3⟩
    have hd' : SuppliesNext d a ((replaceSegment u d.addr d.count.toNat s).ctx u) := by simpa [SuppliesNext] using hd
    obtain ⟨hk, hf⟩ := hd'.of_inPage ⟨h1, h2, h3⟩
    refine ⟨h1, fun x hx => ?_, nofun⟩
    obtain ⟨cur, -, rfl⟩ := Option.map_eq_some_iff.mp hx
    exact follow_areaFits hk hf

theorem switchTo_quiets (hm : D.moves) {d : Descriptor} {a : Word} (hd : SuppliesNext d a (s.ctx u)) :
    Quiets D s (switchTo u d a s).1 := by
  rcases switchTo_cases u d a s with ⟨p, -, hp, h⟩ | h <;> rw [h]
  · have hq := switched_quiets hs hm p hp hd
    split
    · exact hq.trans (offerMilestone_quiets u a _)
    · exact hq
  · have hs' : ((dataFault u .storeFault s).ctx u).onLink := onLink_of_connected (by
      simpa [Context.gain, Context.requestHalt] using hs)
    dsimp only
    refine (dataFault_quiets hs .storeFault).tail (.ctx u _ (.of_onLink hs' (.inl rfl) id rfl rfl id id (fun _ => rfl) rfl
      .inl rfl ?_) rfl)
    rintro - ⟨h1, h2, -⟩
    exact ⟨h1, h2, nofun⟩

theorem placeSome_quiets (hm : D.moves) {g : Segment} (bs : List Byte) (hg : (s.ctx u).seg = some g) (hl : bs.length ≤ g.remaining) :
    Quiets D s (placeSome u g bs s) := by
  have hw : ∀ discard : Bool, Quiets D s (if discard then s else s.writeBytes g.addr bs) ∧
      (if discard then s else s.writeBytes g.addr bs).ctx u = s.ctx u := by
    rintro (_ | _)
    · exact ⟨.one (.write _ _), by simp⟩
    · exact ⟨.refl, rfl⟩
  unfold placeSome
  obtain ⟨hq, hc⟩ := hw (match (s.ctx u).desc with | some d => d.discard | none => false)
  refine hq.tail (.ctx u _ ?_ rfl)
  rw [hc]
  refine .of_onLink (onLink_of_connected hs) (.inl rfl) id rfl rfl id id (fun _ => rfl) rfl .inl (by rw [hg]; rfl) ?_
    fun h => absurd hm h
  rintro - ⟨h1, h2, h3⟩
  refine ⟨?_, h2, h3⟩
  rintro g' ⟨⟩
  exact fits_advance (h1 g hg) hl

theorem overrun_quiets : Quiets D s (overrun u s) := by
  unfold overrun
  (repeat' split)
  · exact .refl
  · exact .refl
  · exact .one (.ctx u _ (.of_notes (.inl (by simp [hs])) rfl) rfl)

theorem ensureSegment_quiets (hm : D.moves) : Quiets D s (ensureSegment u s) := by
  unfold ensureSegment
  split
  · exact firstSegment_quiets hs hm
  · exact .refl

end

/-! ### Input and output of an order -/

section
variable {D : Scope}

theorem placeFrame_quiets (hm : D.moves) (u : UnitAddr) : ∀ (more : Nat) (bs : List Byte) {s : State}, (s.ctx u).state = .connected →
    Quiets D s (placeFrame more u bs s).1
  | 0, _, _, _ => .refl
  | more + 1, bs, s, hs => by
    unfold placeFrame
    split
    · exact .refl
    · next g hg =>
      dsimp only
      have hq1 := placeSome_quiets hs hm (bs.take g.remaining) hg (List.length_take_le _ _)
      have hs1 : ((placeSome u g (bs.take g.remaining) s).ctx u).state = .connected := by simpa using hs
      have hq2 := hq1.trans (testLookahead_quiets hs1)
      have hs2 : ((testLookahead u (placeSome u g (bs.take g.remaining) s)).ctx u).state = .connected := by simpa using hs
      generalize testLookahead u (placeSome u g (bs.take g.remaining) s) = s2 at hq2 hs2 ⊢
      split
      · exact hq2
      · split
        · exact hq2
        · split
          · next d a hl =>
            have hq3 := hq2.trans (switchTo_quiets hs2 hm (.inl hl))
            have hs3 : ((switchTo u d a s2).1.ctx u).state = .connected := by simpa using hs2
            split
            · exact (hq3.trans (testLookahead_quiets hs3)).trans (placeFrame_quiets hm u more _ (by simpa using hs3))
            · exact hq3
          · exact hq2.trans (dataFault_quiets hs2 .programFault)
          · exact hq2.trans (overrun_quiets hs2)

variable {s : State} {u : UnitAddr} (hs : (s.ctx u).state = .connected)
include hs

theorem takeInData_quiets (hm : D.moves) (bs : List Byte) : Quiets D s (takeInData u bs s).1 := placeFrame_quiets hm u _ bs hs

theorem fetchOutput_quiets (hm : D.moves) : Quiets D s (fetchOutput u s).1 := by
  unfold fetchOutput
  split
  · exact .refl
  · next p ho =>
    dsimp only
    generalize hr : fetch (.segment .output) p s (s.ctx u).nextDesc = r
    have hq1 : Quiets D s (s.modCtx u (fun c => { c with jumps := r.jumps })) :=
      .one (.ctx u _ (.of_notes (.inl (by simp [hs])) rfl) rfl)
    have hs1 : ((s.modCtx u (fun c => { c with jumps := r.jumps })).ctx u).state = .connected := by simpa using hs
    generalize s.modCtx u (fun c => { c with jumps := r.jumps }) = s1 at hq1 hs1 ⊢
    split
    · exact hq1.trans (dataFault_quiets hs1 .programFault)
    · next d a hf =>
      rw [← hr] at hf
      have hq2 := hq1.trans (switchTo_quiets hs1 hm (.inr ⟨seg_of_fetch hf, areaFits_of_fetch hf⟩ : SuppliesNext d a _))
      (repeat' split) <;> exact hq2

theorem takeOutData_quiets (hm : D.moves) : Quiets D s (takeOutData u s).1 := by
  unfold takeOutData
  split
  · (repeat' split)
    · exact .refl
    · exact .refl
    · exact fetchOutput_quiets hs hm
    · exact overrun_quiets hs
  · exact .refl

end

/-! ### The end of an order -/

section
variable {D : Scope} {s : State} {u : UnitAddr}

theorem modCtx_self : s.modCtx u (fun c => c) = s := modCtx_id s u

theorem endOrder_acts (n : Nat) (hs : (s.ctx u).inProgress = true) : Acts D s (endOrder u n s) := by
  have h := Act.finish (D := D) u n (fun c => c) hs (fun _ => rfl)
  rw [modCtx_self] at h
  exact .single h

theorem failOrder_acts (u : UnitAddr) (x : Cond) (s : State) : Acts D s (failOrder u x s) := by
  unfold failOrder
  split
  · next h => exact .single (.finish u _ _ h fun _ => rfl)
  · exact .refl

theorem continueChain_acts {d : Descriptor} (a : Word) (hs : (s.ctx u).state = .connected) (hh : (s.ctx u).halt = none)
    (hd : d.areaFits) : Acts D s (continueChain u d a s) := by
  have h : Acts D s (queueChained u d a s) := .single (.chain u d a hs hh hd)
  unfold continueChain
  dsimp only
  split
  · exact h.trans (offerMilestone_quiets u a _).acts
  · exact h

theorem lengthCheck_eq (c : Context) : c.lengthCheck = { c with conds := c.lengthCheck.conds } := by
  unfold Context.lengthCheck
  (repeat' split) <;> rfl

/-- The order of a context as its ending status is taken: the status is kept and the length checked (R43). -/
def withStatus (u : UnitAddr) (st : UStatus) (s : State) : State :=
  s.modCtx u (fun c => ({ c with unitStatus := some st }).lengthCheck)

theorem withStatus_ctx (st : UStatus) : ∃ x, (withStatus u st s).ctx u = { s.ctx u with unitStatus := some st, conds := x } := by
  refine ⟨({ s.ctx u with unitStatus := some st } : Context).lengthCheck.conds, ?_⟩
  rw [withStatus, ctx_modCtx, if_pos rfl, lengthCheck_eq]

theorem withStatus_acts (st : UStatus) (hs : (s.ctx u).state ≠ .idle) : Acts D s (withStatus u st s) :=
  .single (.ctx u _ (.of_notes (.inl hs) (by rw [lengthCheck_eq])))

theorem takeEnding_acts (st : UStatus) (chains : Bool) (hs : (s.ctx u).inProgress = true)
    (hc : chains = true → (s.ctx u).state = .connected) : Acts D s (takeEnding u st chains s) := by
  have hi : (s.ctx u).state ≠ .idle := fun h => by simp [Context.inProgress, h] at hs
  have hq := withStatus_acts (D := D) st hi
  obtain ⟨x, hx⟩ := withStatus_ctx (s := s) (u := u) st
  have hs1 : ((withStatus u st s).ctx u).inProgress = true := by rw [hx]; exact hs
  have hc1 : chains = true → ((withStatus u st s).ctx u).state = .connected := by rw [hx]; exact hc
  unfold takeEnding
  dsimp only
  rw [← withStatus]
  generalize withStatus u st s = s1 at hq hs1 hc1 ⊢
  split
  · next hm =>
    obtain ⟨hch, hm⟩ := Bool.and_eq_true_iff.mp hm
    split
    · exact hq.trans (endOrder_acts _ hs1)
    · next p ho =>
      generalize hr : fetch .order p s1 (s1.ctx u).nextDesc = r
      have hq2 : Acts D s (s1.modCtx u (fun c => { c with jumps := r.jumps })) :=
        hq.tail (.ctx u _ (.of_notes (.inr (by simp [ho])) rfl))
      split
      · next d a hf =>
        rw [← hr] at hf
        have hh : (s1.ctx u).halt = none := by
          unfold Context.mayChain at hm
          split at hm
          · simp at hm
          · simp at hm; exact hm.2
        exact hq2.trans (continueChain_acts a (by simpa using hc1 hch) (by simpa using hh) (areaFits_of_fetch hf))
      · have hs2 : ((s1.modCtx u (fun c => { c with jumps := r.jumps })).ctx u).inProgress = true := by
          simpa [Context.inProgress] using hs1
        exact hq2.tail (.finish u _ _ hs2 fun _ => rfl)
  · exact hq.trans (endOrder_acts _ hs1)

theorem serveReq_acts (hm : D.moves) (u : UnitAddr) (body : ReqBody) (s : State) : Acts D s (serveReq u body s).1 := by
  unfold serveReq
  split
  · exact .refl
  · next hn =>
    have hs : (s.ctx u).state = .connected := not_not.mp hn
    have he := (ensureSegment_quiets hs hm).acts
    have hse : ((ensureSegment u s).ctx u).state = .connected := by simpa using hs
    split
    · split
      · exact he.trans (takeInData_quiets hse hm _).acts
      · exact he
    · split
      · exact he.trans (takeOutData_quiets hse hm).acts
      · exact he
    · exact takeEnding_acts _ _ (inProgress_of_onLink (onLink_of_connected hs)) fun _ => hs
    · exact .refl

end

/-! ### Selection outcomes, halts, adoption -/

section
variable {D : Scope} {s : State}

theorem enterDisconnected_acts {u : UnitAddr} (h : (s.ctx u).state = .selecting ∨ (s.ctx u).state = .connected) :
    Acts D s (enterDisconnected u s) := .single (.disconnect u h)

theorem selectionAccepted_acts (hm : D.moves) (u : UnitAddr) (s : State) : Acts D s (selectionAccepted u s) := by
  unfold selectionAccepted
  split
  · next hs =>
    split
    · have h : Acts D s (s.modCtx u (fun c => { c with state := .connected })) :=
        .single (.ctx u _ (.of_onLink (.inl hs) (.inr ⟨hs, rfl⟩) id rfl rfl id id (fun _ => rfl) rfl .inl rfl fun _ => id))
      exact h.trans (firstSegment_quiets (by simp) hm).acts
    · exact enterDisconnected_acts (.inl hs)
  · exact .refl

theorem selectionRefused_acts (u : UnitAddr) (st : UStatus) (s : State) : Acts D s (selectionRefused u st s) := by
  unfold selectionRefused
  split
  · next hs => exact .single (.finish u _ _ (inProgress_of_onLink (.inl hs)) fun _ => rfl)
  · exact .refl

theorem haltSelectionAnswered_acts (u : UnitAddr) (st : UStatus) (s : State) : Acts D s (haltSelectionAnswered u st s) := by
  unfold haltSelectionAnswered
  split
  · next hs => exact takeEnding_acts st false (inProgress_of_onLink (.inl hs)) (by simp)
  · exact .refl

theorem exchangeOver_acts (u : UnitAddr) (s : State) : Acts D s (exchangeOver u s) := by
  unfold exchangeOver
  split
  · next hs => exact enterDisconnected_acts (.inr hs)
  · exact .refl

/-- The silence timer of a DISCONNECTED context is set. -/
theorem silence_quiets {u : UnitAddr} (t : Timer) (hs : (s.ctx u).state = .disconnected) :
    Quiets D s (s.modCtx u (fun c => { c with silence := t })) :=
  .one (.ctx u _ (.of_onLink (.inr (.inr hs)) (.inl rfl) id rfl rfl id id (fun _ => rfl) rfl (fun _ => .inr hs) rfl
    fun _ => id) rfl)

theorem recallOver_quiets (u : UnitAddr) (s : State) : Quiets D s (recallOver u s) := by
  unfold recallOver
  split
  · next hs => exact silence_quiets _ hs
  · exact .refl

theorem recallFailed_acts (u : UnitAddr) (wrong : Bool) (s : State) : Acts D s (recallFailed u wrong s) := by
  have h := (recallLost_quiets (D := D) u s).acts
  unfold recallFailed
  dsimp only
  split
  · exact h.trans (failOrder_acts u _ _)
  · exact h

/-- ADOPT of a context of the peer in use (R144, R145). -/
theorem adoptContext_quiets {y : Port} {u : UnitAddr} (ho : (s.ctx u).owner = some y.peer) :
    Quiets D s (adoptContext y u s) := by
  have hlink : (s.ctx u).onLink → Quiets D s (haltOnLink u .adopt
      (s.modCtx u (fun c => { c with owner := some y, adopted := true, discard := false }))) := fun hs =>
    (Quiets.one (.ctx u _ (.of_onLink hs (.inl rfl) (by simp) rfl rfl (by simp) id (fun _ => rfl) rfl .inl rfl fun _ => id)
      rfl)).tail (.halt u .adopt (by simpa using hs))
  unfold adoptContext
  dsimp only
  split
  · exact .refl
  · next hs => exact .one (.finishQueued u 0 _ hs fun _ => rfl)
  · next hs => exact hlink (.inl hs)
  · next hs => exact hlink (.inr (.inl hs))
  · next hs => exact hlink (.inr (.inr hs))
  · next hs => exact .one (.adoptHeld y u hs ho)

end

end Sys2Proof.StepActs
end

section
/-! PROOFS. The commands of the ports, the timers and the resets as chains of acts. -/

namespace Sys2Proof.StepActs

open Sys2Proof.Machine Sys2Proof.Laws Sys2Proof.Fetching

/-! ### Ports -/

section
variable {D : Scope} {s : State}

/-- A change of a port that leaves its lease alone. -/
theorem port_quiets (p : Port) (f : PortIf → PortIf) (hstate : (f (s.port p)).state = (s.port p).state)
    (hlease : (f (s.port p)).lease = (s.port p).lease) (hcount : (f (s.port p)).lapseCount = (s.port p).lapseCount) :
    Quiets D s (s.modPort p f) :=
  .one (.port p f fun h => by rwa [leaseOk, hstate, hlease, hcount])

theorem modReceiver_quiets (p : Port) (f : Receiver → Receiver) : Quiets D s (s.modReceiver p f) :=
  port_quiets p _ rfl rfl rfl

theorem restartLease_quiets (p : Port) (h : s.dsc.part ≠ .loading) : Quiets D s (s.modPort p PortIf.restartLease) := by
  refine .one (.port p _ fun ⟨h1, h2, h3⟩ => ?_)
  unfold PortIf.restartLease
  split
  · next ha => exact ⟨h1, fun hl => absurd (ha.symm.trans hl) (by decide), fun hp => absurd hp h⟩
  · exact ⟨h1, h2, h3⟩

theorem resume_quiets (p : Port) (h : (s.port p).state = .lapsed) : Quiets D s (resume p s) := by
  have hport : Quiets D s (s.modPort p (fun x => { x with state := .active, lease := Timer.tens x.leasePeriod })) := by
    refine .one (.port p _ fun ⟨h1, h2, h3⟩ => ⟨h1, fun hl => (by cases hl), fun hp => ?_⟩)
    exact absurd ((h3 hp).1.symm.trans h) (by decide)
  exact (hport.trans (offerNotice_quiets p.peer .peerResumed none _)).trans (offerNotice_quiets p .adoptedAway _ _)

theorem goodFrame_quiets (p : Port) (s : State) : Quiets D s (goodFrame p s) := by
  unfold goodFrame
  split
  · next h => exact resume_quiets p h
  · split
    · next h => exact restartLease_quiets p (by simpa [State.started] using h)
    · exact .refl

/-- A frame taken on a port is a chain of acts when its command is one. -/
theorem takeFrame_chain {R : State → State → Prop} (hR : ∀ x y, Quiet D x y → R x y) (p : Port) (frame : List Byte)
    {f : State → State × Response} (hf : ∀ x, Relation.ReflTransGen R x (f x).1) (s : State) :
    Relation.ReflTransGen R s (takeFrame p frame f s) := by
  have lift : ∀ {x y}, Quiets D x y → Relation.ReflTransGen R x y := Relation.ReflTransGen.mono hR _ _
  unfold takeFrame
  split
  · split
    · exact ((lift (modReceiver_quiets p _)).trans (hf _)).trans (lift (modReceiver_quiets p _))
    · exact lift (modReceiver_quiets p _)
  · exact .refl

theorem takeCommand_chain {R : State → State → Prop} (hR : ∀ x y, Quiet D x y → R x y) (p : Port) (code : Byte)
    (args : List Byte) {f : State → State × Response} (hf : ∀ x, Relation.ReflTransGen R x (f x).1) (s : State) :
    Relation.ReflTransGen R s (takeCommand p code args f s) :=
  takeFrame_chain hR p _ (fun x => (Relation.ReflTransGen.mono hR _ _ (goodFrame_quiets p x)).trans (hf _)) s

theorem inStarted_chain {R : State → State → Prop} {f : State → State × Response}
    (hf : ∀ x, x.dsc.part ≠ .loading → Relation.ReflTransGen R x (f x).1) (x : State) :
    Relation.ReflTransGen R x (inStarted f x).1 := by
  unfold inStarted
  split
  · next h => exact hf x (by simpa [State.started] using h)
  · exact .refl

theorem inReady_chain {R : State → State → Prop} {f : State → State × Response}
    (hf : ∀ x, x.dsc.part = .ready → Relation.ReflTransGen R x (f x).1) (x : State) :
    Relation.ReflTransGen R x (inReady f x).1 := by
  unfold inReady
  split
  · next h => exact hf x h
  · exact .refl

theorem withUnit_chain {R : State → State → Prop} {f : UnitAddr → State → State × Response} {x : State} (b : Byte)
    (hf : ∀ u, Relation.ReflTransGen R x (f u x).1) : Relation.ReflTransGen R x (withUnit b f x).1 := by
  unfold withUnit
  split
  · exact .refl
  · exact hf _

end

/-! ### Contexts other than the one acted on -/

section
variable {s : State} {u v : UnitAddr}

theorem offerCompletion_ctx_of_ne (p : Port) (r : Completion) (hv : v ≠ u) :
    (offerCompletion p u r s).ctx v = s.ctx v := by
  unfold offerCompletion
  split <;> simp [holdRecord, hv]

theorem endOrder_ctx_of_ne (n : Nat) (hv : v ≠ u) : (endOrder u n s).ctx v = s.ctx v := by
  unfold endOrder
  (repeat' split) <;> simp [offerCompletion_ctx_of_ne, hv]

/-- An order that has ended leaves its context IDLE or HELD. -/
theorem endOrder_inProgress (n : Nat) : ((endOrder u n s).ctx u).inProgress = false := by
  unfold endOrder
  (repeat' split)
  · simp [Context.inProgress]
  · simp [Context.inProgress]
  · dsimp only [offerCompletion]
    split <;> simp [Context.inProgress, holdRecord]

theorem failOrder_ctx_of_ne (x : Cond) (hv : v ≠ u) : (failOrder u x s).ctx v = s.ctx v := by
  unfold failOrder
  split <;> simp [endOrder_ctx_of_ne, hv]

theorem failOrder_inProgress (x : Cond) : ((failOrder u x s).ctx u).inProgress = false := by
  unfold failOrder
  split
  · exact endOrder_inProgress _
  · next h => exact Bool.eq_false_iff.mpr h

theorem joinStop_ctx_of_ne (hv : v ≠ u) : (joinStop u s).ctx v = s.ctx v := by
  unfold joinStop
  split <;> simp [hv]

theorem haltOnLink_ctx_of_ne (cause : HaltCause) (hv : v ≠ u) : (haltOnLink u cause s).ctx v = s.ctx v := by
  unfold haltOnLink
  dsimp only
  split <;> simp [joinStop_ctx_of_ne, hv]

theorem adoptContext_ctx_of_ne (y : Port) (hv : v ≠ u) : (adoptContext y u s).ctx v = s.ctx v := by
  unfold adoptContext
  dsimp only
  (repeat' split) <;> simp [endOrder_ctx_of_ne, haltOnLink_ctx_of_ne, hv]

theorem adoptCounted_ctx_of_ne (y : Port) (hv : v ≠ u) : (adoptCounted y u s).ctx v = s.ctx v := by
  simp [adoptCounted, adoptContext_ctx_of_ne y hv]

/-- LINK_RESET's pass over the contexts leaves none of them in progress. -/
theorem foldl_failOrder_inProgress (x : Cond) : ∀ (l : List UnitAddr) (s : State), l.Nodup → ∀ v,
    ((l.foldl (fun s u => failOrder u x s) s).ctx v).inProgress = if v ∈ l then false else (s.ctx v).inProgress
  | [], s, _, v => by simp
  | u :: l, s, hl, v => by
    obtain ⟨hu, hl⟩ := List.nodup_cons.mp hl
    rw [List.foldl_cons, foldl_failOrder_inProgress x l _ hl]
    by_cases hv : v = u
    · subst hv; simp [hu, failOrder_inProgress]
    · simp [hv, failOrder_ctx_of_ne]

theorem allUnits_nodup : allUnits.Nodup := List.nodup_finRange 32

theorem mem_allUnits (u : UnitAddr) : u ∈ allUnits := List.mem_finRange u

end

/-! ### The commands -/

section
variable {D : Scope} {s : State}

theorem acceptStart_quiets (p : Port) {u : UnitAddr} {d : Descriptor} (a : Word) (jumps : Nat) (hr : s.dsc.part = .ready)
    (hs : (s.ctx u).state = .idle) (hd : d.areaFits) : Quiets D s (acceptStart p u d a jumps s) := by
  have h : Quiets D s (queueStart p u d a jumps s) := .one (.start p u d a jumps hr hs hd)
  unfold acceptStart
  dsimp only
  split
  · exact h.trans (offerMilestone_quiets u a _)
  · exact h

theorem doStart_quiets (p : Port) (unit : Byte) (addr : Word) (s : State) : Quiets D s (doStart p unit addr s).1 := by
  refine inReady_chain (fun x hr => withUnit_chain unit fun u => ?_) s
  unfold startUnit
  (repeat' split)
  · exact .refl
  · exact .refl
  · exact .refl
  · exact .refl
  · next hi _ _ =>
    dsimp only
    split
    · exact .refl
    · next d a hf => exact acceptStart_quiets p a _ hr (not_not.mp hi) (areaFits_of_fetch hf)

theorem adoptCounted_quiets {y : Port} {u : UnitAddr} (ho : (s.ctx u).owner = some y.peer) :
    Quiets D s (adoptCounted y u s) :=
  (adoptContext_quiets ho).trans (port_quiets _ _ rfl rfl rfl)

theorem failQueued_quiets {u : UnitAddr} (x : Cond) (hs : (s.ctx u).state = .queued) : Quiets D s (failOrder u x s) := by
  unfold failOrder
  split
  · exact .one (.finishQueued u _ _ hs fun _ => rfl)
  · exact .refl

theorem haltUnit_quiets (p : Port) (u : UnitAddr) (s : State) : Quiets D s (haltUnit p u s).1 := by
  unfold haltUnit
  dsimp only
  split
  · exact .refl
  · next hi =>
    split
    · next h => exact adoptCounted_quiets h.1
    · split
      · exact .refl
      · next hh =>
        (repeat' split)
        · exact .refl
        · exact .refl
        · next hq => exact failQueued_quiets .halted hq
        · next hq =>
          refine .one (.halt u .halt ?_)
          cases hc : (s.ctx u).state <;> simp_all [Context.onLink]

theorem doHalt_quiets (p : Port) (unit : Byte) (s : State) : Quiets D s (doHalt p unit s).1 :=
  inReady_chain (fun _ _ => withUnit_chain unit fun u => haltUnit_quiets p u _) s

theorem doQueryUnit_quiets (unit : Byte) (s : State) : Quiets D s (doQueryUnit unit s).1 :=
  inStarted_chain (fun _ _ => withUnit_chain unit fun _ => .refl) s

theorem foldl_adoptCounted_quiets (y : Port) : ∀ (l : List UnitAddr) (s : State), l.Nodup →
    (∀ u ∈ l, (s.ctx u).owner = some y.peer) → Quiets D s (l.foldl (fun s u => adoptCounted y u s) s)
  | [], _, _, _ => .refl
  | u :: l, s, hl, ho => by
    obtain ⟨hu, hl⟩ := List.nodup_cons.mp hl
    refine (adoptCounted_quiets (ho u List.mem_cons_self)).trans (foldl_adoptCounted_quiets y l _ hl fun v hv => ?_)
    rw [adoptCounted_ctx_of_ne y (ne_of_mem_of_not_mem hv hu)]
    exact ho v (List.mem_cons_of_mem _ hv)

theorem ownedBy_nodup (p : Port) (s : State) : (s.ownedBy p).Nodup := allUnits_nodup.filter _

theorem mem_ownedBy {p : Port} {u : UnitAddr} : u ∈ s.ownedBy p ↔ (s.ctx u).owner = some p := by
  simp [State.ownedBy, mem_allUnits]

theorem doAdopt_quiets (p : Port) (arg : Byte) (s : State) : Quiets D s (doAdopt p arg s).1 := by
  refine inReady_chain (fun x _ => ?_) s
  split
  · split
    · unfold adoptUnit
      split
      · next ho => exact adoptCounted_quiets ho
      · exact .refl
    · exact .refl
  · split
    · split
      · exact foldl_adoptCounted_quiets p _ x (ownedBy_nodup _ x) fun u hu => mem_ownedBy.mp hu
      · exact .refl
    · exact .refl

theorem takeFrom_quiets (x : Port) (s : State) : Quiets D s (takeFrom x s).1 := by
  unfold takeFrom
  split
  · exact .refl
  · next r h => exact .one (.remove x fun he => by simp [he] at h)

theorem doPeekRecord_quiets (p : Port) (s : State) : Quiets D s (doPeekRecord p s).1 := by
  unfold doPeekRecord
  split <;> exact .refl

theorem doPeerTake_quiets (p : Port) (s : State) : Quiets D s (doPeerTake p s).1 := by
  unfold doPeerTake
  split
  · exact takeFrom_quiets _ s
  · exact .refl

theorem doReadStore_quiets (p : Port) (addr : Word) (len : Byte) (s : State) : Quiets D s (doReadStore p addr len s).1 := by
  unfold doReadStore
  (repeat' split) <;> exact .refl

theorem doWriteStore_quiets (p : Port) (addr : Word) (data : List Byte) (s : State) :
    Quiets D s (doWriteStore p addr data s).1 := by
  unfold doWriteStore
  (repeat' split)
  · exact .refl
  · exact .one (.write _ _)
  · exact .refl

theorem doClaimPages_quiets (p : Port) (first number : Byte) (s : State) : Quiets D s (doClaimPages p first number s).1 := by
  unfold doClaimPages
  (repeat' split)
  · exact .refl
  · exact .one (.tag _ _ fun h => by cases p <;> cases h)
  · exact .refl

theorem doSharePages_quiets (p : Port) (first number : Byte) (s : State) : Quiets D s (doSharePages p first number s).1 := by
  unfold doSharePages
  (repeat' split)
  · exact .refl
  · exact .one (.tag _ _ nofun)
  · exact .refl

theorem doReleasePages_quiets (p : Port) (first number : Byte) (s : State) :
    Quiets D s (doReleasePages p first number s).1 := by
  unfold doReleasePages
  (repeat' split)
  · exact .refl
  · exact .refl
  · next hn => exact .one (.tag _ _ fun _ q hq => by simpa using List.find?_eq_none.mp hn q hq)
  · exact .refl

theorem doQueryPages_quiets (first number : Byte) (s : State) : Quiets D s (doQueryPages first number s).1 := by
  unfold doQueryPages
  split <;> exact .refl

theorem doPortReset_quiets (p : Port) (s : State) : Quiets D s (doPortReset p s).1 :=
  ((Quiets.one (.clearPort p)).trans (port_quiets p _ rfl rfl rfl)).trans (offerNotice_quiets p.peer .peerReset none _)

theorem doReadStatus_quiets (p : Port) (s : State) : Quiets D s (doReadStatus p s).1 := by
  unfold doReadStatus
  dsimp only
  exact port_quiets p _ rfl rfl rfl

theorem stopTimers_quiets (p : Port) : Quiets D s (s.modPort p PortIf.stopTimers) :=
  .one (.port p _ fun ⟨h1, _, h3⟩ => ⟨h1, fun _ => rfl, fun hp => ⟨(h3 hp).1, rfl⟩⟩)

/-- A change of the directory controller that leaves the part state, the load and the reset phase alone. -/
theorem dsc_quiets (f : Dsc → Dsc) (hpart : (f s.dsc).part = s.dsc.part) (hload : (f s.dsc).load = s.dsc.load)
    (hphase : (f s.dsc).phase = s.dsc.phase) : Quiets D s (s.modDsc f) :=
  .one (.dsc f ⟨by rw [hpart]; exact id, by rw [hpart, hload]; exact fun h => ⟨h, id⟩⟩
    (by rw [phaseKept, hpart, hload, hphase]; exact fun h => ⟨h, id⟩))

theorem doPartReset_quiets (p : Port) (s : State) : Quiets D s (doPartReset p s).1 := by
  refine inStarted_chain (fun x _ => ?_) s
  split <;> dsimp only [agreeReset]
  · exact (((stopTimers_quiets p).trans (stopTimers_quiets p.peer)).trans (dsc_quiets _ rfl rfl rfl)).trans
      (modReceiver_quiets p.peer _)
  · exact port_quiets p _ rfl rfl rfl

theorem doLoadDirectory_quiets (index unit mode home silence : Byte) (s : State) :
    Quiets D s (doLoadDirectory index unit mode home silence s).1 := by
  refine inStarted_chain (fun x _ => withUnit_chain index fun i => ?_) s
  split <;> dsimp only [stageEntry]
  · exact .refl
  · exact dsc_quiets _ rfl rfl rfl

theorem restartLeases_quiets (h : s.dsc.part ≠ .loading) : Quiets D s (restartLeases s) :=
  (restartLease_quiets .a h).trans (restartLease_quiets .b h)

theorem setLeasePeriods_quiets (n : Byte) : Quiets D s (setLeasePeriods n s) :=
  (port_quiets .a (fun x => { x with leasePeriod := n }) rfl rfl rfl).trans
    (port_quiets .b (fun x => { x with leasePeriod := n }) rfl rfl rfl)

/-- A directory becomes active after a load, or once start-up has ended. -/
theorem activate_quiets (d : Directory) (h : s.dsc.part = .loading → s.dsc.load = .loaded) : Quiets D s (activate d s) := by
  have hdsc : Quiets D s (s.modDsc (fun x => { x with active := some d, part := .ready })) := by
    refine .one (.dsc _ ⟨nofun, fun hl => ⟨fun hx => ?_, fun hn => absurd rfl hn⟩⟩ fun hp => ⟨hp, fun ⟨h1, h2⟩ => ?_⟩)
    · have h1 := h (hl hx)
      rw [h1] at hx
      rcases hx with hx | hx <;> cases hx
    · cases (h h1).symm.trans h2
  exact ((hdsc.trans (setLeasePeriods_quiets d.lease)).trans (restartLeases_quiets nofun)).trans (offerBoth_quiets _ _ _)

theorem doCommitDirectory_quiets (count lease : Byte) (s : State) : Quiets D s (doCommitDirectory count lease s).1 := by
  refine inStarted_chain (fun x hx => ?_) s
  unfold commit
  (repeat' split)
  · exact .refl
  · exact .refl
  · exact .refl
  · exact activate_quiets _ fun h => absurd h hx

theorem doReadDirectory_quiets (index : Byte) (s : State) : Quiets D s (doReadDirectory index s).1 :=
  inStarted_chain (fun _ _ => withUnit_chain index fun _ => .refl) s

theorem lnk_acts (f : Lnk → Lnk) : Acts D s (s.modLnk f) := .single (.lnk f)

theorem foldl_failOrder_acts (x : Cond) : ∀ (l : List UnitAddr) (s : State),
    Acts D s (l.foldl (fun s u => failOrder u x s) s)
  | [], _ => .refl
  | u :: l, s => (failOrder_acts u x s).trans (foldl_failOrder_acts x l _)

/-- LINK_RESET's last two steps, once no order is in progress (R110). -/
theorem clearQueues_acts (n : Option Nat) (h : ∀ u, (s.ctx u).inProgress = false) : Acts D s
    (offerBoth .linkResetDone n (((s.modSelectQ (fun _ => [])).modStopQ (fun _ => [])).setDeferred [])) :=
  (((Relation.ReflTransGen.single (.clearQueues h)).tail (.quiet (.defer [] fun _ => List.nodup_nil)))).trans
    (offerBoth_quiets _ _ _).acts

theorem endAll_acts (l : List UnitAddr) (hl : l.Nodup) (hm : ∀ u, u ∈ l) (n : Option Nat) : Acts D s
    (offerBoth .linkResetDone n ((((l.foldl (fun s u => failOrder u .linkReset s) s).modSelectQ
      (fun _ => [])).modStopQ (fun _ => [])).setDeferred [])) :=
  (foldl_failOrder_acts .linkReset l s).trans
    (clearQueues_acts n fun u => by rw [foldl_failOrder_inProgress _ _ _ hl, if_pos (hm u)])

theorem linkResetSteps_acts (s : State) : Acts D s (linkResetSteps s) := by
  unfold linkResetSteps
  exact (lnk_acts _).trans (endAll_acts allUnits allUnits_nodup mem_allUnits (some s.ordersInProgress))

theorem doLinkReset_portActs (s : State) : PortActs D s (doLinkReset s).1 := by
  unfold doLinkReset
  refine inStarted_chain (fun x hx => ?_) s
  dsimp only
  exact .single (.linkReset x hx)

end

/-! ### Bytes and chip select, port timers, resets and start-up -/

section
variable {D : Scope} {s : State}

theorem startUp_acts (s : State) : Acts D s (startUp s) := by
  have hports : Quiets D s ((s.modPort .a PortIf.atResetEnd).modPort .b PortIf.atResetEnd) :=
    (port_quiets .a _ rfl rfl rfl).trans (port_quiets .b _ rfl rfl rfl)
  have hdsc : Acts D s (((s.modPort .a PortIf.atResetEnd).modPort .b PortIf.atResetEnd).modDsc
      (fun d => { d with phase := .none })) :=
    hports.acts.tail (.dsc _ ⟨id, fun h => ⟨h, id⟩⟩)
  unfold startUp beginLinkReset
  exact hdsc.trans (lnk_acts _)

theorem takeAgreedReset_acts (s : State) : Acts D s (takeAgreedReset s) :=
  (Relation.ReflTransGen.single (.reset .part)).trans (startUp_acts _)

theorem dsc_acts (f : Dsc → Dsc) (hpart : (f s.dsc).part = s.dsc.part) (hload : (f s.dsc).load = s.dsc.load) :
    Acts D s (s.modDsc f) :=
  .single (.dsc f ⟨by rw [hpart]; exact id, by rw [hpart, hload]; exact fun h => ⟨h, id⟩⟩)

theorem captureAndStart_acts (x : Straps) (s : State) : Acts D s (captureAndStart x s) :=
  (dsc_acts _ rfl rfl).trans (startUp_acts _)

theorem runCommand_portActs (p : Port) (code : Byte) (args : List Byte) (s : State) : PortActs D s (runCommand p code args s).1 := by
  unfold runCommand
  generalize code.toNat = n
  by_cases hn : n < 22
  · interval_cases n
    · -- no command has code 00h
      exact .refl
    · -- READ_STATUS (01h)
      rcases args with _ | _
      exacts [(doReadStatus_quiets p s).portActs, .refl]
    · -- KEEPALIVE (02h)
      rcases args with _ | _ <;> exact .refl
    · -- START (03h)
      rcases args with _ | ⟨_, _ | ⟨_, _ | ⟨_, _ | _⟩⟩⟩
      exacts [.refl, .refl, .refl, (doStart_quiets p _ _ s).portActs, .refl]
    · -- HALT (04h)
      rcases args with _ | ⟨_, _ | _⟩
      exacts [.refl, (doHalt_quiets p _ s).portActs, .refl]
    · -- QUERY_UNIT (05h)
      rcases args with _ | ⟨_, _ | _⟩
      exacts [.refl, (doQueryUnit_quiets _ s).portActs, .refl]
    · -- ADOPT (06h)
      rcases args with _ | ⟨_, _ | _⟩
      exacts [.refl, (doAdopt_quiets p _ s).portActs, .refl]
    · -- TAKE_RECORD (07h)
      rcases args with _ | _
      exacts [(takeFrom_quiets p s).portActs, .refl]
    · -- PEEK_RECORD (08h)
      rcases args with _ | _
      exacts [(doPeekRecord_quiets p s).portActs, .refl]
    · -- PEER_TAKE (09h)
      rcases args with _ | _
      exacts [(doPeerTake_quiets p s).portActs, .refl]
    · -- READ_STORE (0Ah)
      rcases args with _ | ⟨_, _ | ⟨_, _ | ⟨_, _ | _⟩⟩⟩
      exacts [.refl, .refl, .refl, (doReadStore_quiets p _ _ s).portActs, .refl]
    · -- WRITE_STORE (0Bh)
      rcases args with _ | ⟨_, _ | ⟨_, _ | ⟨_, ds⟩⟩⟩
      · exact .refl
      · exact .refl
      · exact .refl
      · change PortActs D s ((if ds.length ≤ 63 then doWriteStore p _ _ else fun s => (s, .bare .badCommand)) s).1
        split
        · exact (doWriteStore_quiets p _ _ s).portActs
        · exact .refl
    · -- CLAIM_PAGES (0Ch)
      rcases args with _ | ⟨_, _ | ⟨_, _ | _⟩⟩
      exacts [.refl, .refl, (doClaimPages_quiets p _ _ s).portActs, .refl]
    · -- SHARE_PAGES (0Dh)
      rcases args with _ | ⟨_, _ | ⟨_, _ | _⟩⟩
      exacts [.refl, .refl, (doSharePages_quiets p _ _ s).portActs, .refl]
    · -- RELEASE_PAGES (0Eh)
      rcases args with _ | ⟨_, _ | ⟨_, _ | _⟩⟩
      exacts [.refl, .refl, (doReleasePages_quiets p _ _ s).portActs, .refl]
    · -- QUERY_PAGES (0Fh)
      rcases args with _ | ⟨_, _ | ⟨_, _ | _⟩⟩
      exacts [.refl, .refl, (doQueryPages_quiets _ _ s).portActs, .refl]
    · -- PORT_RESET (10h)
      rcases args with _ | _
      exacts [(doPortReset_quiets p s).portActs, .refl]
    · -- LINK_RESET (11h)
      rcases args with _ | _
      exacts [doLinkReset_portActs s, .refl]
    · -- PART_RESET (12h)
      rcases args with _ | _
      exacts [(doPartReset_quiets p s).portActs, .refl]
    · -- LOAD_DIRECTORY (13h)
      rcases args with _ | ⟨_, _ | ⟨_, _ | ⟨_, _ | ⟨_, _ | ⟨_, _ | _⟩⟩⟩⟩⟩
      exacts [.refl, .refl, .refl, .refl, .refl, (doLoadDirectory_quiets _ _ _ _ _ s).portActs, .refl]
    · -- COMMIT_DIRECTORY (14h)
      rcases args with _ | ⟨_, _ | ⟨_, _ | _⟩⟩
      exacts [.refl, .refl, (doCommitDirectory_quiets _ _ s).portActs, .refl]
    · -- READ_DIRECTORY (15h)
      rcases args with _ | ⟨_, _ | _⟩
      exacts [.refl, (doReadDirectory_quiets _ s).portActs, .refl]
  · obtain ⟨m, rfl⟩ := Nat.exists_eq_add_of_le (Nat.le_of_not_lt hn)
    rw [Nat.add_comm]
    exact .refl

theorem PortActs.acts {t : State} (h : PortActs D s t) : Acts D s t := by
  induction h with
  | refl => exact .refl
  | tail _ hxy ih =>
    refine ih.trans ?_
    cases hxy
    case quiet h => exact .single (.quiet h)
    case linkReset => exact linkResetSteps_acts _
    case agreed => exact takeAgreedReset_acts _

end

end Sys2Proof.StepActs
end

section
/-! PROOFS. The replies of units, the events of the link and of the part, and so every command, as chains of acts. -/

namespace Sys2Proof.StepActs

open Sys2Proof.Machine Sys2Proof.Laws

/-! ### What LNK sends -/

section
variable {D : Scope} {s : State}

theorem sendIn_acts (e : Exchange) (s : State) : Acts D s (sendIn e s) := lnk_acts _

theorem sendAbandon_acts (e : Exchange) (u : UnitAddr) (x : Option Answer) (s : State) :
    Acts D s (sendAbandon e u x s) :=
  ((lnk_acts _).trans (lnk_acts _)).trans (lnk_acts _)

theorem openGrant_acts (g : GrantKind) (k : ExKind) (u : Option UnitAddr) (f : CtlFrame) (s : State) :
    Acts D s (openGrant g k u f s) :=
  (lnk_acts _).trans (sendIn_acts _ _)

theorem setAnswer_acts (u : UnitAddr) (x : Option Answer) (s : State) : Acts D s (s.setAnswer u x) := lnk_acts _

theorem toOpened_acts (s : State) : Acts D s (toOpened s) := lnk_acts _

theorem failExchange_acts (e : Exchange) (u : UnitAddr) (x : Cond) (entry : Option Answer) (s : State) :
    Acts D s (failExchange e u x entry s) :=
  (failOrder_acts u x s).trans (sendAbandon_acts e u entry _)

theorem endExchange_acts (e : Exchange) (s : State) : Acts D s (endExchange e s) := by
  unfold endExchange
  split
  · exact lnk_acts _
  · dsimp only
    split
    · exact lnk_acts _
    · split
      · exact (lnk_acts _).trans (recallOver_quiets _ _).acts
      · exact (lnk_acts _).trans (exchangeOver_acts _ _)

theorem wrongFrame_acts (e : Exchange) (u : UnitAddr) (f : UnitFrame) (entry : Option Answer) (s : State) :
    Acts D s (wrongFrame e u f entry s) := by
  unfold wrongFrame
  split
  · split
    · exact (((failExchange_acts e u .protocol entry s).trans (offerStray_quiets _ _).acts).trans (lnk_acts _)).trans
        (lnk_acts _)
    · exact failExchange_acts e u .protocol entry s
  · exact failExchange_acts e u .protocol entry s

theorem tryAgain_acts (e : Exchange) (s : State) : Acts D s (tryAgain e s) := sendIn_acts _ s

/-! ### Replies -/

theorem serveOrder_acts (hm : D.moves) (u : UnitAddr) (body : ReqBody) (tries : Nat) (corrupt : Bool) (opener : Option GrantKind)
    (s : State) : Acts D s (serveOrder u body tries corrupt opener s) := by
  have h := serveReq_acts hm u body s
  unfold serveOrder
  dsimp only
  split
  · exact (h.trans (lnk_acts _)).trans (lnk_acts _)
  · exact (h.trans (lnk_acts _)).trans (lnk_acts _)
  · exact h.trans (lnk_acts _)
  · exact ((h.trans (lnk_acts _)).trans (lnk_acts _)).trans (lnk_acts _)
  · exact h.trans (failExchange_acts _ _ _ _ _)

theorem longReq_acts (hm : D.moves) (u : UnitAddr) (mark : Bool) (body : ReqBody) (tries : Nat) (corrupt : Bool) (s : State) :
    Acts D s (longReq u mark body tries corrupt s) := by
  unfold longReq
  split
  · exact lnk_acts _
  · exact serveOrder_acts hm _ _ _ _ _ s

theorem answerStatus_acts (u : UnitAddr) (st : Byte) (tries : Nat) (corrupt : Bool) (opener : GrantKind)
    {r : State × Bool} (h : Acts D s r.1) : Acts D s (answerStatus u st tries corrupt opener r) :=
  (h.trans (sendIn_acts _ _)).trans (setAnswer_acts _ _ _)

theorem polledReq_acts (hm : D.moves) (u : UnitAddr) (mark : Bool) (body : ReqBody) (s : State) : Acts D s (polledReq u mark body s) := by
  unfold polledReq
  dsimp only
  split
  · exact lnk_acts _
  · split
    · exact ((lnk_acts _).trans (lnk_acts _)).trans (offerStray_quiets _ _).acts
    · split
      · next hs => exact (Relation.ReflTransGen.single (.connect u hs)).trans (serveOrder_acts hm _ _ _ _ _ _)
      · split
        · exact answerStatus_acts _ _ _ _ _ (takeUnsolicited_quiets _ _ s).acts
        · exact (lnk_acts _).trans (lnk_acts _)
        · exact (lnk_acts _).trans (lnk_acts _)

theorem noUnit_acts (u : UnitAddr) (s : State) : Acts D s (toOpened (failOrder u .noUnit s)) :=
  (failOrder_acts u .noUnit s).trans (lnk_acts _)

theorem retryOrEnd_acts (e : Exchange) (s : State) : Acts D s (retryOrEnd e s) := by
  have hsel : ∀ u, Acts D s (if e.tries < Config.maxTries then tryAgain e s
      else if e.corrupt then failExchange e u .linkFault (abandonAnswer u none) s else toOpened (failOrder u .noUnit s)) := by
    intro u
    split
    · exact tryAgain_acts e s
    · split
      · exact failExchange_acts _ _ _ _ _
      · exact noUnit_acts u s
  unfold retryOrEnd
  split
  · exact hsel _
  · exact hsel _
  · split
    · exact tryAgain_acts e s
    · exact ((recallFailed_acts _ _ s).trans (lnk_acts _)).trans (recallOver_quiets _ _).acts
  · split
    · exact tryAgain_acts e s
    · exact failExchange_acts _ _ _ _ _
  · split
    · exact tryAgain_acts e s
    · exact failExchange_acts _ _ _ _ _
  · exact lnk_acts _
  · exact .refl
  · exact .refl
  · exact lnk_acts _

theorem failedTry_acts (e : Exchange) (corrupt : Bool) (s : State) : Acts D s (failedTry e corrupt s) :=
  retryOrEnd_acts _ s

theorem selectionReply_acts (hm : D.moves) (e : Exchange) (u : UnitAddr) (f : UnitFrame) (s : State) :
    Acts D s (selectionReply e u f s) := by
  unfold selectionReply
  split
  · exact failedTry_acts _ _ s
  · split
    · split
      · split
        · exact ((selectionAccepted_acts hm u s).trans (lnk_acts _)).trans (lnk_acts _)
        · exact (selectionAccepted_acts hm u s).trans (lnk_acts _)
      · exact (selectionRefused_acts u _ s).trans (lnk_acts _)
    · exact failExchange_acts _ _ _ _ _
  · exact failExchange_acts _ _ _ _ _
  · exact failExchange_acts _ _ _ _ _
  · exact failExchange_acts _ _ _ _ _

theorem haltSelectionReply_acts (e : Exchange) (u : UnitAddr) (f : UnitFrame) (s : State) :
    Acts D s (haltSelectionReply e u f s) := by
  unfold haltSelectionReply
  split
  · exact failedTry_acts _ _ s
  · split
    · exact (haltSelectionAnswered_acts u _ s).trans (lnk_acts _)
    · exact failExchange_acts _ _ _ _ _
  · exact failExchange_acts _ _ _ _ _
  · exact failExchange_acts _ _ _ _ _
  · exact failExchange_acts _ _ _ _ _

theorem pollReply_acts (hm : D.moves) (f : UnitFrame) (s : State) : Acts D s (pollReply f s) := by
  cases f
  case req u mark body => exact polledReq_acts hm u mark body s
  all_goals exact toOpened_acts s

theorem recallWrong_acts (e : Exchange) (u : UnitAddr) (f : UnitFrame) (s : State) : Acts D s (recallWrong e u f s) :=
  (recallFailed_acts u true s).trans (sendAbandon_acts _ _ _ _)

theorem recallReply_acts (e : Exchange) (u : UnitAddr) (f : UnitFrame) (s : State) : Acts D s (recallReply e u f s) := by
  unfold recallReply
  split
  · exact failedTry_acts _ _ s
  · split
    · split
      · exact lnk_acts _
      · exact answerStatus_acts _ _ _ _ _ (takeDeferred_quiets _ _ s).acts
    · exact recallWrong_acts _ _ _ s
  all_goals exact recallWrong_acts _ _ _ s

theorem datReply_acts (hm : D.moves) {e : Exchange} {u : UnitAddr} (f : UnitFrame)
    (h : D.dat → ∀ g ∈ (s.ctx u).seg, e.datLength ≤ g.remaining) : Acts D s (datReply e u f s) := by
  unfold datReply
  split
  · exact failedTry_acts _ _ s
  · split
    · exact (((advanceSegment_quiets h hm).acts).trans (lnk_acts _)).trans (endExchange_acts e _)
    · exact wrongFrame_acts _ _ _ _ s
  · split
    · exact failedTry_acts _ _ s
    · exact wrongFrame_acts _ _ _ _ s
  · exact wrongFrame_acts _ _ _ _ s
  · exact wrongFrame_acts _ _ _ _ s

theorem longFrame_acts (hm : D.moves) (u : UnitAddr) (failed : Nat) (corrupt : Bool) (f : UnitFrame) (s : State) :
    Acts D s (longFrame u failed corrupt f s) := by
  unfold longFrame
  dsimp only
  split
  · split
    · exact (lnk_acts _).trans (lnk_acts _)
    · exact failExchange_acts _ _ _ _ _
  · split
    · exact longReq_acts hm _ _ _ _ _ s
    · exact wrongFrame_acts _ _ _ _ s
  all_goals exact wrongFrame_acts _ _ _ _ s

/-- A DAT in flight is no longer than what its segment has left (R40). -/
def datFits (s : State) : Prop := ∀ e ∈ s.lnk.exchange, ∀ u ∈ e.unit, ∀ g ∈ (s.ctx u).seg, e.datLength ≤ g.remaining

theorem awaitedFrame_acts (hm : D.moves) (f : UnitFrame) (h : D.dat → datFits s) : Acts D s (awaitedFrame f s) := by
  unfold awaitedFrame
  split
  · exact longFrame_acts hm _ _ _ f s
  · next _ e _ he =>
    split
    · exact selectionReply_acts hm _ _ f s
    · exact haltSelectionReply_acts _ _ f s
    · exact pollReply_acts hm f s
    · exact recallReply_acts _ _ f s
    · next u _ hu => exact datReply_acts hm f fun hd => h hd e he u hu
    · exact longFrame_acts hm _ _ _ f s
    · exact .refl
  · exact .refl

theorem receiveFrame_acts (hm : D.moves) (f : UnitFrame) (h : D.dat → datFits s) : Acts D s (receiveFrame f s) := by
  unfold receiveFrame
  split
  · exact (lnk_acts _).trans (awaitedFrame_acts hm f h)
  · exact lnk_acts _

end

/-! ### The events of the link -/

section
variable (D : Scope) (s : State)

theorem execHaltSelectionGrant_acts : ∃ t, execHaltSelectionGrant s = .next t ∧ Acts D s t := by
  unfold execHaltSelectionGrant
  split
  · next u rest _ hq =>
    exact ⟨_, rfl, ((Relation.ReflTransGen.single (.selectHalt u rest hq)).trans (lnk_acts _)).trans
      (openGrant_acts _ _ _ _ _)⟩
  · exact ⟨s, rfl, .refl⟩

theorem execRecallGrant_acts : ∃ t, execRecallGrant s = .next t ∧ Acts D s t := by
  unfold execRecallGrant
  split
  · refine ⟨_, rfl, ?_⟩
    split
    · next hs => exact ((silence_quiets _ hs).acts.trans (lnk_acts _)).trans (openGrant_acts _ _ _ _ _)
    · exact (lnk_acts _).trans (openGrant_acts _ _ _ _ _)
  · exact ⟨s, rfl, .refl⟩

theorem execPollGrant_acts : ∃ t, execPollGrant s = .next t ∧ Acts D s t := by
  unfold execPollGrant
  split
  · exact ⟨_, rfl, openGrant_acts _ _ _ _ _⟩
  · exact ⟨s, rfl, .refl⟩

theorem execSelectionGrant_acts : ∃ t, execSelectionGrant s = .next t ∧ Acts D s t := by
  unfold execSelectionGrant
  split
  · next u rest _ hq =>
    exact ⟨_, rfl, ((Relation.ReflTransGen.single (.selectQueued u rest hq)).trans (lnk_acts _)).trans
      (openGrant_acts _ _ _ _ _)⟩
  · exact ⟨s, rfl, .refl⟩

theorem execFrameSent_acts : ∃ t, execFrameSent s = .next t ∧ Acts D s t := by
  unfold execFrameSent
  split
  · split
    · split
      · exact ⟨_, rfl, lnk_acts _⟩
      · split
        · exact ⟨_, rfl, lnk_acts _⟩
        · exact ⟨_, rfl, endExchange_acts _ s⟩
    · exact ⟨s, rfl, .refl⟩
  · exact ⟨s, rfl, .refl⟩

theorem execFrameStart_acts : ∃ t, execFrameStart s = .next t ∧ Acts D s t := by
  unfold execFrameStart
  split
  · exact ⟨s, rfl, .refl⟩
  · split
    · exact ⟨_, rfl, lnk_acts _⟩
    · split
      · exact ⟨s, rfl, .refl⟩
      · exact ⟨_, rfl, lnk_acts _⟩

theorem execReplyTimerExpiry_acts : ∃ t, execReplyTimerExpiry s = .next t ∧ Acts D s t := by
  unfold execReplyTimerExpiry
  split
  · exact ⟨_, rfl, (lnk_acts _).trans (failedTry_acts _ _ _)⟩
  · exact ⟨s, rfl, .refl⟩

theorem execGapTimerExpiry_acts : ∃ t, execGapTimerExpiry s = .next t ∧ Acts D s t := by
  unfold execGapTimerExpiry
  split
  · exact ⟨_, rfl, failExchange_acts _ _ _ _ s⟩
  · exact ⟨s, rfl, .refl⟩

theorem execSilenceTimerExpiry_acts (u : UnitAddr) : ∃ t, execSilenceTimerExpiry u s = .next t ∧ Acts D s t := by
  unfold execSilenceTimerExpiry
  split
  · next h =>
    refine ⟨_, rfl, ((silence_quiets .stopped h.2).acts).tail (.quiet (.halt u .timeout ?_))⟩
    rw [ctx_modCtx, if_pos rfl]
    exact .inr (.inr h.2)
  · exact ⟨s, rfl, .refl⟩

/-! ### The events of the ports -/

theorem receiveByte_portActs (p : Port) (b : Byte) : PortActs D s (receiveByte p b s) := by
  unfold receiveByte
  dsimp only
  split
  · exact takeFrame_chain (fun _ _ => .quiet) p _ (fun _ => .refl) s
  · split
    · refine takeFrame_chain (fun _ _ => .quiet) p _ (fun x => ?_) s
      unfold judgeFrame
      split
      · split
        · exact (goodFrame_quiets p x).portActs.trans (runCommand_portActs p _ _ _)
        · exact .refl
      · exact .refl
    · exact (modReceiver_quiets p _).portActs

theorem execByteTaken_portActs (p : Port) (b : Byte) : ∃ t, execByteTaken p b s = .next t ∧ PortActs D s t := by
  unfold execByteTaken
  dsimp only
  split
  · exact ⟨s, rfl, .refl⟩
  · split
    · exact ⟨s, rfl, .refl⟩
    · exact ⟨_, rfl, receiveByte_portActs D s p b⟩
    · exact ⟨_, rfl, (modReceiver_quiets p _).portActs⟩
    · split
      · exact ⟨_, rfl, (modReceiver_quiets p _).portActs⟩
      · split
        · exact ⟨_, rfl, Relation.ReflTransGen.single (.agreed s)⟩
        · exact ⟨_, rfl, (modReceiver_quiets p _).portActs⟩
    · exact ⟨_, rfl, (modReceiver_quiets p _).portActs⟩
    · exact ⟨s, rfl, .refl⟩

theorem execChipSelectAssert_portActs (p : Port) : ∃ t, execChipSelectAssert p s = .next t ∧ PortActs D s t := by
  have h : Quiets D s (s.modPort p (fun x => { x with chipSelect := true })) := port_quiets p _ rfl rfl rfl
  unfold execChipSelectAssert
  dsimp only
  split
  · exact ⟨_, rfl, Quiets.portActs (h.trans (modReceiver_quiets p _))⟩
  · exact ⟨_, rfl, h.portActs⟩

theorem execChipSelectDeassert_portActs (p : Port) : ∃ t, execChipSelectDeassert p s = .next t ∧ PortActs D s t := by
  have h : Quiets D s (s.modPort p (fun x => { x with chipSelect := false })) := port_quiets p _ rfl rfl rfl
  unfold execChipSelectDeassert
  dsimp only
  split
  · exact ⟨_, rfl, h.portActs⟩
  · split
    · exact ⟨_, rfl, h.portActs.tail (.agreed _)⟩
    · exact ⟨_, rfl, Quiets.portActs (h.trans (modReceiver_quiets p _))⟩

theorem execLeaseExpiry_portActs (p : Port) : ∃ t, execLeaseExpiry p s = .next t ∧ PortActs D s t := by
  unfold execLeaseExpiry
  split
  · next h =>
    refine ⟨_, rfl, Quiets.portActs ((Quiets.one (.port p _ fun ⟨_, _, h3⟩ => ?_)).trans
      (offerNotice_quiets p.peer .peerLapsed none _))⟩
    refine ⟨Nat.min_le_left _ _, fun _ => rfl, fun hp => ?_⟩
    have hl := h.1
    rw [(h3 hp).2] at hl
    cases hl
  · exact ⟨s, rfl, .refl⟩

theorem execStampExpiry_portActs (p : Port) : ∃ t, execStampExpiry p s = .next t ∧ PortActs D s t := by
  unfold execStampExpiry
  split
  · exact ⟨_, rfl, (port_quiets p _ rfl rfl rfl).portActs⟩
  · exact ⟨s, rfl, .refl⟩

theorem execAgreedResetTaken_portActs : ∃ t, execAgreedResetTaken s = .next t ∧ PortActs D s t := by
  unfold execAgreedResetTaken
  split
  · exact ⟨s, rfl, .refl⟩
  · exact ⟨_, rfl, Relation.ReflTransGen.single (.agreed s)⟩

/-! ### The events of the part -/

theorem execPowerOn_acts : ∃ t, execPowerOn s = .next t ∧ Acts D s t :=
  ⟨_, rfl, (Relation.ReflTransGen.single (.reset .powerOn)).trans (dsc_acts _ rfl rfl)⟩

theorem execPowerOnEnd_acts (x : Straps) : ∃ t, execPowerOnEnd x s = .next t ∧ Acts D s t := by
  unfold execPowerOnEnd
  split
  · split
    · exact ⟨_, rfl, dsc_acts _ rfl rfl⟩
    · exact ⟨_, rfl, captureAndStart_acts x s⟩
  · exact ⟨s, rfl, .refl⟩

theorem execResetAssert_acts : ∃ t, execResetAssert s = .next t ∧ Acts D s t := by
  unfold execResetAssert
  split
  · exact ⟨_, rfl, (Relation.ReflTransGen.single (.reset .pin)).trans (dsc_acts _ rfl rfl)⟩
  · exact ⟨_, rfl, dsc_acts _ rfl rfl⟩

theorem execResetRelease_acts (x : Straps) : ∃ t, execResetRelease x s = .next t ∧ Acts D s t := by
  unfold execResetRelease
  split
  · exact ⟨_, rfl, (dsc_acts _ rfl rfl).trans (captureAndStart_acts x _)⟩
  · exact ⟨_, rfl, dsc_acts _ rfl rfl⟩

theorem execBreakEnd_acts : ∃ t, execBreakEnd s = .next t ∧ Acts D s t := by
  unfold execBreakEnd
  split
  · exact ⟨_, rfl, lnk_acts _⟩
  · exact ⟨s, rfl, .refl⟩

theorem execSettleEnd_acts : ∃ t, execSettleEnd s = .next t ∧ Acts D s t := by
  unfold execSettleEnd
  split
  · dsimp only
    split
    · next h =>
      obtain ⟨hp, hl⟩ := h
      refine ⟨_, rfl, (lnk_acts fun l => { l with link := .opened, linkTimer := .stopped, srqSampled := l.srqLine }).trans ?_⟩
      unfold settleStartUp
      split
      · refine (Relation.ReflTransGen.single (.dsc _ ⟨fun h => (by cases h), fun _ => ⟨fun hx => ?_, fun _ => ?_⟩⟩)).trans
          (restartLeases_quiets (by simp)).acts
        · rcases hx with hx | hx <;> cases hl.symm.trans hx
        · exact fun hr => by cases hp.symm.trans hr
      · exact .single (.dsc _ ⟨id, fun _ => ⟨fun _ => hp, id⟩⟩)
    · exact ⟨_, rfl, lnk_acts _⟩
  · exact ⟨s, rfl, .refl⟩

/-- A load attempt has ended, and no other begins (R157). -/
theorem loadEnded_quiets (f : Dsc → Dsc) (hload : s.dsc.load = .first ∨ s.dsc.load = .second)
    (hpart : (f s.dsc).part = .loading → s.dsc.part = .loading)
    (hnone : (f s.dsc).load ≠ .first ∧ (f s.dsc).load ≠ .second)
    (hready : (f s.dsc).part ≠ .ready → s.dsc.part = .loading → s.dsc.part ≠ .ready)
    (hphase : (f s.dsc).phase = s.dsc.phase) : Quiets D s (s.modDsc f) := by
  refine .one (.dsc f ⟨hpart, fun h => ⟨fun hx => (hx.elim hnone.1 hnone.2).elim, fun hr => hready hr (h hload)⟩⟩
    fun hp => ⟨by rwa [← hphase], fun hl => ?_⟩)
  rcases hload with h | h <;> cases hl.2.symm.trans h

theorem loadSucceeds_quiets (d : Directory) (h : s.dsc.load = .first ∨ s.dsc.load = .second) :
    Quiets D s (loadSucceeds d s) :=
  (loadEnded_quiets D s _ h (by simp) (by simp) (by simp +contextual) rfl).trans (activate_quiets d fun _ => rfl)

theorem loadFails_quiets (h : s.dsc.load = .first ∨ s.dsc.load = .second) : Quiets D s (loadFails s) :=
  ((loadEnded_quiets D s _ h (by simp) (by simp) (by simp +contextual) rfl).trans (restartLeases_quiets (by simp))).trans
    (offerBoth_quiets _ _ _)

theorem execLoadAttemptEnd_acts (image : List Byte) : ∃ t, execLoadAttemptEnd image s = .next t ∧ Acts D s t := by
  unfold execLoadAttemptEnd
  split
  · next h _ => exact ⟨_, rfl, (loadSucceeds_quiets D s _ (.inl h)).acts⟩
  · next h _ =>
    refine ⟨_, rfl, .single (.dsc _ ⟨id, fun hl => ⟨fun _ => hl (.inl h), id⟩⟩)⟩
  · next h _ => exact ⟨_, rfl, (loadSucceeds_quiets D s _ (.inr h)).acts⟩
  · next h _ => exact ⟨_, rfl, (loadFails_quiets D s (.inr h)).acts⟩
  all_goals exact ⟨s, rfl, .refl⟩

end

/-! ### The rows of a port -/

section
variable (D : Scope) (s : State)

theorem takeCommand_next {D : Scope} {s : State} (p : Port) (code : Byte) (args : List Byte) {f : State → State × Response}
    (hf : ∀ x, PortActs D x (f x).1) : ∃ t, Host.Outcome.next (takeCommand p code args f s) = (.next t : Host.Outcome State Fault Refusal) ∧
      PortActs D s t :=
  ⟨_, rfl, takeCommand_chain (fun _ _ => .quiet) p code args hf s⟩

theorem takeFrame_next {D : Scope} {s : State} (p : Port) (frame : List Byte) (r : Response) :
    ∃ t, Host.Outcome.next (takeFrame p frame (fun x => (x, r)) s) = (.next t : Host.Outcome State Fault Refusal) ∧ PortActs D s t :=
  ⟨_, rfl, takeFrame_chain (fun _ _ => .quiet) p frame (fun _ => .refl) s⟩

theorem execWriteStore_portActs (p : Port) (a : Word) (data : List Byte) :
    ∃ t, execWriteStore p a data s = .next t ∧ PortActs D s t := by
  unfold execWriteStore
  dsimp only
  split
  · refine takeCommand_next p _ _ fun x => ?_
    split
    · exact (doWriteStore_quiets p a data x).portActs
    · exact .refl
  · exact takeFrame_next p _ _

theorem execBadCommand_portActs (p : Port) (code : Byte) (args : List Byte) :
    ∃ t, execBadCommand p code args s = .next t ∧ PortActs D s t := by
  unfold execBadCommand
  split
  · exact takeCommand_next p code args fun _ => .refl
  · exact ⟨s, rfl, .refl⟩

theorem execFrameError_portActs (p : Port) (frame : List Byte) : ∃ t, execFrameError p frame s = .next t ∧ PortActs D s t := by
  unfold execFrameError
  split
  · exact takeFrame_next p frame _
  · exact ⟨s, rfl, .refl⟩

theorem execArgumentLengthError_portActs (p : Port) (code len : Byte) :
    ∃ t, execArgumentLengthError p code len s = .next t ∧ PortActs D s t := by
  unfold execArgumentLengthError
  split
  · exact takeFrame_next p _ _
  · exact ⟨s, rfl, .refl⟩

/-- The rows of a port: its frames, its pins and its timers. -/
def isPortRow : Instr → Bool
  | .powerOn => false
  | .powerOnEnd _ => false
  | .resetAssert => false
  | .resetRelease _ => false
  | .breakEnd => false
  | .settleEnd => false
  | .loadAttemptEnd _ => false
  | .srqChange _ => false
  | .haltSelectionGrant => false
  | .recallGrant => false
  | .pollGrant => false
  | .selectionGrant => false
  | .frameSent => false
  | .frameStart => false
  | .replyTimerExpiry => false
  | .gapTimerExpiry => false
  | .silenceTimerExpiry _ => false
  | c => (linkFrame c).isNone

/-- Every row of a port is a chain of its acts. -/
theorem exec_portActs {c : Instr} (hc : isPortRow c = true) : ∃ t, exec c s = .next t ∧ PortActs D s t := by
  cases c
  case readStatus p => exact takeCommand_next p _ _ fun x => (doReadStatus_quiets p x).portActs
  case keepalive p => exact takeCommand_next p _ _ fun x => .refl
  case start p u a => exact takeCommand_next p _ _ fun x => (doStart_quiets p u a x).portActs
  case halt p u => exact takeCommand_next p _ _ fun x => (doHalt_quiets p u x).portActs
  case queryUnit p u => exact takeCommand_next p _ _ fun x => (doQueryUnit_quiets u x).portActs
  case adopt p a => exact takeCommand_next p _ _ fun x => (doAdopt_quiets p a x).portActs
  case takeRecord p => exact takeCommand_next p _ _ fun x => (takeFrom_quiets p x).portActs
  case peekRecord p => exact takeCommand_next p _ _ fun x => (doPeekRecord_quiets p x).portActs
  case peerTake p => exact takeCommand_next p _ _ fun x => (doPeerTake_quiets p x).portActs
  case readStore p a n => exact takeCommand_next p _ _ fun x => (doReadStore_quiets p a n x).portActs
  case writeStore p a bs => exact execWriteStore_portActs D s p a bs
  case claimPages p f n => exact takeCommand_next p _ _ fun x => (doClaimPages_quiets p f n x).portActs
  case sharePages p f n => exact takeCommand_next p _ _ fun x => (doSharePages_quiets p f n x).portActs
  case releasePages p f n => exact takeCommand_next p _ _ fun x => (doReleasePages_quiets p f n x).portActs
  case queryPages p f n => exact takeCommand_next p _ _ fun x => (doQueryPages_quiets f n x).portActs
  case portReset p => exact takeCommand_next p _ _ fun x => (doPortReset_quiets p x).portActs
  case linkReset p => exact takeCommand_next p _ _ doLinkReset_portActs
  case partReset p => exact takeCommand_next p _ _ fun x => (doPartReset_quiets p x).portActs
  case loadDirectory p i u m h l => exact takeCommand_next p _ _ fun x => (doLoadDirectory_quiets i u m h l x).portActs
  case commitDirectory p n l => exact takeCommand_next p _ _ fun x => (doCommitDirectory_quiets n l x).portActs
  case readDirectory p i => exact takeCommand_next p _ _ fun x => (doReadDirectory_quiets i x).portActs
  case badCommand p code args => exact execBadCommand_portActs D s p code args
  case frameError p frame => exact execFrameError_portActs D s p frame
  case argumentLengthError p code len => exact execArgumentLengthError_portActs D s p code len
  case chipSelectAssert p => exact execChipSelectAssert_portActs D s p
  case chipSelectDeassert p => exact execChipSelectDeassert_portActs D s p
  case leaseExpiry p => exact execLeaseExpiry_portActs D s p
  case stampExpiry p => exact execStampExpiry_portActs D s p
  case agreedResetTaken => exact execAgreedResetTaken_portActs D s
  case byteTaken p b => exact execByteTaken_portActs D s p b
  all_goals cases hc

end

/-! ### Every command -/

section
variable (D : Scope) (s : State)

theorem linkFrame_acts (hm : D.moves) {c : Instr} {f : UnitFrame} (h : linkFrame c = some f) (hd : D.dat → datFits s) :
    ∃ t, exec c s = .next t ∧ Acts D s t :=
  ⟨_, exec_linkFrame s h, receiveFrame_acts hm f hd⟩

/-- Every command is a chain of acts. -/
theorem exec_acts (c : Instr) (hd : D.dat → datFits s) (hm : (linkFrame c).isSome → D.moves) :
    ∃ t, exec c s = .next t ∧ Acts D s t := by
  by_cases hp : isPortRow c = true
  · obtain ⟨t, he, ha⟩ := exec_portActs D s hp
    exact ⟨t, he, PortActs.acts ha⟩
  cases hl : linkFrame c with
  | some f => exact linkFrame_acts D s (hm (by rw [hl]; rfl)) hl hd
  | none =>
    cases c
    case powerOn => exact execPowerOn_acts D s
    case powerOnEnd x => exact execPowerOnEnd_acts D s x
    case resetAssert => exact execResetAssert_acts D s
    case resetRelease x => exact execResetRelease_acts D s x
    case breakEnd => exact execBreakEnd_acts D s
    case settleEnd => exact execSettleEnd_acts D s
    case loadAttemptEnd image => exact execLoadAttemptEnd_acts D s image
    case srqChange x => exact ⟨_, rfl, lnk_acts _⟩
    case haltSelectionGrant => exact execHaltSelectionGrant_acts D s
    case recallGrant => exact execRecallGrant_acts D s
    case pollGrant => exact execPollGrant_acts D s
    case selectionGrant => exact execSelectionGrant_acts D s
    case frameSent => exact execFrameSent_acts D s
    case replyTimerExpiry => exact execReplyTimerExpiry_acts D s
    case gapTimerExpiry => exact execGapTimerExpiry_acts D s
    case silenceTimerExpiry u => exact execSilenceTimerExpiry_acts D s u
    case frameStart => exact execFrameStart_acts D s
    case rsp => cases hl
    case reqInData => cases hl
    case reqOutData => cases hl
    case reqStatus => cases hl
    case reqRepeat => cases hl
    case ack => cases hl
    case nak => cases hl
    case corruptFrame => cases hl
    all_goals exact absurd rfl hp

end

end Sys2Proof.StepActs
end

section
/-! PROOFS. The invariants of the parts that one act at a time changes: the queue of commands, the store and the leases. -/

namespace Sys2Proof.StepActs

open Sys2Proof.Machine Sys2Proof.Laws

/-! ### What the acts that stand for several updates leave alone -/

section
variable {α β : Type}

/-- A part of the state that no step of a pass changes is left alone by the pass. -/
theorem foldl_keeps (f : State → α → State) (part : State → β) (h : ∀ s a, part (f s a) = part s) :
    ∀ (l : List α) (s : State), part (l.foldl f s) = part s
  | [], _ => rfl
  | a :: l, s => (foldl_keeps f part h l (f s a)).trans (h s a)

end

section
variable (s : State)

@[simp] theorem tagPages_rest (t : Tag) (qs : List PageNo) :
    (s.tagPages t qs).ports = s.ports ∧ (s.tagPages t qs).rcm = s.rcm ∧ (s.tagPages t qs).ctb = s.ctb ∧
      (s.tagPages t qs).dsc = s.dsc ∧ (s.tagPages t qs).lnk = s.lnk ∧ (s.tagPages t qs).pending = s.pending ∧
      (s.tagPages t qs).str.store = s.str.store := by
  rw [tagPages_eq]
  exact ⟨rfl, rfl, rfl, rfl, rfl, rfl, rfl⟩

theorem clearPort_port (p x : Port) : (clearPort p s).port x = s.port x := by
  simp [clearPort, foldl_keeps (fun s u => portResetContext u s) (·.port x)]

theorem clearPort_dsc (p : Port) : (clearPort p s).dsc = s.dsc := by
  simp [clearPort, foldl_keeps (fun s u => portResetContext u s) State.dsc]

theorem clearPort_lnk (p : Port) : (clearPort p s).lnk = s.lnk := by
  simp [clearPort, foldl_keeps (fun s u => portResetContext u s) State.lnk]

theorem clearPort_pending (p : Port) : (clearPort p s).pending = s.pending := by
  simp [clearPort, foldl_keeps (fun s u => portResetContext u s) State.pending]

theorem clearPort_store (p : Port) : (clearPort p s).str.store = s.str.store := by
  simp [clearPort, foldl_keeps (fun s u => portResetContext u s) (·.str.store)]

theorem clearPort_deferred (p : Port) : (clearPort p s).rcm.deferred = s.rcm.deferred := by
  simp [clearPort, foldl_keeps (fun s u => portResetContext u s) (·.rcm.deferred)]

variable (y x : Port) (u : UnitAddr)

theorem adoptHeld_port : (adoptHeld y u s).port x = s.port x := by
  unfold adoptHeld; dsimp only; (repeat' split) <;> simp

theorem adoptHeld_dsc : (adoptHeld y u s).dsc = s.dsc := by
  unfold adoptHeld; dsimp only; (repeat' split) <;> simp

theorem adoptHeld_lnk : (adoptHeld y u s).lnk = s.lnk := by
  unfold adoptHeld; dsimp only; (repeat' split) <;> simp

theorem adoptHeld_pending : (adoptHeld y u s).pending = s.pending := by
  unfold adoptHeld; dsimp only; (repeat' split) <;> simp

theorem adoptHeld_store : (adoptHeld y u s).str.store = s.str.store := by
  unfold adoptHeld; dsimp only; (repeat' split) <;> simp

theorem adoptHeld_deferred : (adoptHeld y u s).rcm.deferred = s.rcm.deferred := by
  unfold adoptHeld; dsimp only; (repeat' split) <;> simp

end

/-! ### From acts to steps -/

section
variable {D : Scope} {s t : State}

theorem Acts.keeps {P : State → Prop} (hP : ∀ x y, Act D x y → P x → P y) (h : Acts D s t) (hs : P s) : P t := by
  induction h with
  | refl => exact hs
  | tail _ hxy ih => exact hP _ _ hxy ih

/-- What every act keeps is kept by a step, when taking the command from the queue keeps it. -/
theorem step_keeps {P : State → Prop} (hstep : step s = .next t) (hd : ∀ rest, D.dat → datFits { s with pending := rest })
    (hm : D.moves)
    (htake : ∀ rest, P { s with pending := rest }) (hP : ∀ x y, Act D x y → P x → P y) : P t := by
  unfold step at hstep
  split at hstep
  · cases hstep
    exact htake s.pending
  · next i rest _ =>
    obtain ⟨t', he, ha⟩ := exec_acts D { s with pending := rest } i (hd rest) fun _ => hm
    rw [he] at hstep
    cases hstep
    exact ha.keeps hP (htake rest)

/-! ### The queue of commands -/

theorem Quiet.pending_eq (h : Quiet D s t) : t.pending = s.pending := by
  cases h
  case clearPort p => exact clearPort_pending s p
  case adoptHeld y u _ _ => exact adoptHeld_pending s y u
  case current => simp [replaceSegment]
  case start => simp [queueStart]
  all_goals simp

theorem Act.pending_eq (h : Act D s t) : t.pending = s.pending := by
  cases h
  case quiet h => exact h.pending_eq
  case chain => simp [queueChained]
  case selectHalt => simp [enterSelecting]
  case selectQueued => simp [enterSelecting]
  case reset => rfl
  all_goals simp

/-- Settles O2: every command is a chain of acts, and no act changes the queue. -/
theorem everyCommandAnswersNextAndKeepsTheQueue : Obligations.EveryCommandAnswersNextAndKeepsTheQueue := by
  intro c s
  obtain ⟨t, he, ha⟩ := exec_acts .moving s c False.elim fun _ => trivial
  exact ⟨t, he, ha.keeps (P := fun x => x.pending = s.pending) (fun x y h hx => h.pending_eq.trans hx) rfl⟩

/-! ### The store -/

theorem Quiet.keeps_storeOk (h : Quiet D s t) (hs : s.storeOk) : t.storeOk := by
  cases h
  case write a bs => exact writeBytes_storeOk bs a hs
  all_goals unfold State.storeOk at hs ⊢
  case clearPort p => rwa [clearPort_store]
  case adoptHeld y u _ _ => rwa [adoptHeld_store]
  case current => simpa [replaceSegment] using hs
  case start => simpa [queueStart] using hs
  all_goals simpa using hs

theorem Act.keeps_storeOk (h : Act D s t) (hs : s.storeOk) : t.storeOk := by
  cases h
  case quiet h => exact h.keeps_storeOk hs
  all_goals unfold State.storeOk at hs ⊢
  case chain => simpa [queueChained] using hs
  case selectHalt => simpa [enterSelecting] using hs
  case selectQueued => simpa [enterSelecting] using hs
  case reset cause =>
    cases cause
    · rfl
    · exact hs
    · exact hs
  all_goals simpa using hs

/-- Settles O53: a byte written and a reset are the only acts that touch the store, and both leave it canonical. -/
theorem everyStepKeepsTheStoreCanonical : Obligations.EveryStepKeepsTheStoreCanonical := fun _ _ hs hstep =>
  step_keeps (D := .moving) hstep (fun _ => False.elim) trivial (fun _ => hs) fun _ _ h => h.keeps_storeOk

/-! ### The leases -/

theorem Quiet.keeps_leasesOk (h : Quiet D s t) (hs : s.leasesOk) : t.leasesOk := by
  intro x
  have hx := hs x
  cases h
  case port p f hf =>
    by_cases hp : x = p
    · subst hp
      simpa [leaseOk] using hf hx
    · simpa [hp] using hx
  case dsc f hf _ =>
    obtain ⟨h1, h2, h3⟩ := hx
    exact ⟨h1, h2, fun hp => h3 (hf.loading hp)⟩
  case clearPort p => rwa [clearPort_port, clearPort_dsc]
  case adoptHeld y u _ _ => rwa [adoptHeld_port, adoptHeld_dsc]
  case current => simpa [replaceSegment] using hx
  case start => simpa [queueStart] using hx
  case tag tg qs _ => rw [State.port, (tagPages_rest s tg qs).1, (tagPages_rest s tg qs).2.2.2.1]; exact hx
  all_goals simpa using hx

theorem Act.keeps_leasesOk (h : Act D s t) (hs : s.leasesOk) : t.leasesOk := by
  cases h
  case quiet h => exact h.keeps_leasesOk hs
  case dsc f hf =>
    intro x
    obtain ⟨h1, h2, h3⟩ := hs x
    exact ⟨h1, h2, fun hp => h3 (hf.loading hp)⟩
  case reset cause =>
    intro x
    obtain ⟨h1, -⟩ := hs x
    have hcount : ((resetBlocks cause s).port x).lapseCount = if cause = .powerOn then 0 else (s.port x).lapseCount := by
      cases x <;> rfl
    refine ⟨?_, by cases x <;> exact nofun, fun _ => by cases x <;> exact ⟨rfl, rfl⟩⟩
    rw [hcount]
    split
    · exact Nat.zero_le _
    · exact h1
  case chain => intro x; simpa [queueChained] using hs x
  case selectHalt => intro x; simpa [enterSelecting] using hs x
  case selectQueued => intro x; simpa [enterSelecting] using hs x
  all_goals intro x; simpa using hs x

/-- Settles O59: an act on a port keeps the form of its lease, and no act leads back to LOADING but a reset. -/
theorem everyStepKeepsTheLeases : Obligations.EveryStepKeepsTheLeases := fun _ _ hs hstep =>
  step_keeps (D := .moving) hstep (fun _ => False.elim) trivial (fun _ => hs) fun _ _ h => h.keeps_leasesOk

end

end Sys2Proof.StepActs
end

section
/-! PROOFS. The contexts and the lists of contexts: an act changes one context, and each list follows it. -/

namespace Sys2Proof.StepActs

open Sys2Proof.Machine Sys2Proof.Laws Sys2Proof.UnitContexts

/-! ### When a context agrees with its state -/

section
variable {c : Context} {u : UnitAddr}

theorem agrees_idle : ({} : Context).agrees u := by
  simp [Context.agrees, Context.inProgress, Context.heldOk, Timer.runs]

theorem agrees_queued (h : c.state = .queued) (ho : c.owner ≠ none) (hd : c.desc.isSome) (hr : c.heldRecord = none)
    (hg : c.seg = none) (hx : c.discard = false) (ht : c.silence = .stopped) : c.agrees u := by
  simp [Context.agrees, Context.inProgress, Context.heldOk, Timer.runs, *]

theorem agrees_held {r : Completion} (h : c.state = .held) (ho : c.owner = some r.owner) (hr : c.heldRecord = some r)
    (hu : r.unit = u) (hd : c.desc = none) (hg : c.seg = none) (hx : c.discard = false) (ht : c.silence.runs = false) :
    c.agrees u := by
  simp [Context.agrees, Context.inProgress, Context.heldOk, *]

theorem agrees_onLink_iff (h : c.onLink) : c.agrees u ↔ c.owner ≠ none ∧ c.desc.isSome ∧ c.heldRecord = none ∧
    (c.discard = true → c.halt ≠ none) ∧ (c.silence.runs = true → c.state = .disconnected) := by
  obtain ⟨hi, hq, hh⟩ := not_idle_of_onLink h
  have hp := inProgress_of_onLink h
  constructor
  · rintro ⟨h1, -, h3, ⟨h4, -⟩, -, h6, h7⟩
    refine ⟨fun ho => hi (h1.mp ho), h3.mpr hp, ?_, fun hx => (h6 hx).1, h7⟩
    rw [← Option.not_isSome_iff_eq_none, h4]
    exact hh
  · rintro ⟨h1, h3, h4, h6, h7⟩
    refine ⟨iff_of_false h1 hi, fun hx => absurd hx hi, iff_of_true h3 hp, ⟨?_, ?_⟩, fun _ => h, fun hx => ⟨h6 hx, h⟩, h7⟩
    · simp [h4, hh]
    · simp [h4]

end

/-! ### A list of contexts that follows one of them -/

/-- A list of units that follows a change of one of them: that one is on it exactly when it should be, the others stay. -/
def listFollows (u : UnitAddr) (l l' : List UnitAddr) (on : Prop) : Prop :=
  (l.Nodup → l'.Nodup) ∧ (u ∈ l' ↔ on) ∧ ∀ v, v ≠ u → (v ∈ l' ↔ v ∈ l)

section
variable {u : UnitAddr} {l : List UnitAddr} {on : Prop}

theorem follows_same (h : u ∈ l ↔ on) : listFollows u l l on := ⟨id, h, fun _ _ => .rfl⟩

theorem mem_without {u v : UnitAddr} {l : List UnitAddr} : v ∈ without u l ↔ v ∈ l ∧ v ≠ u := by simp [without]

theorem follows_without (h : ¬ on) : listFollows u l (without u l) on :=
  ⟨without_nodup u, iff_of_false (not_mem_without u l) h, fun v hv => by simp [mem_without, hv]⟩

theorem follows_append (hu : u ∉ l) (h : on) : listFollows u l (l ++ [u]) on :=
  ⟨append_nodup hu, by simp [h], fun v hv => by simp [hv]⟩

theorem follows_tail {rest : List UnitAddr} (hl : l = u :: rest) (hn : l.Nodup) (h : ¬ on) : listFollows u l rest on := by
  subst hl
  obtain ⟨hu, hr⟩ := List.nodup_cons.mp hn
  exact ⟨fun _ => hr, iff_of_false hu h, fun v hv => by simp [hv]⟩

end

section
variable {s t : State} {u : UnitAddr}

/-- The contexts stay consistent when one of them changes, agrees with its new state, and every list follows it. -/
theorem contextsOk_of_update (hs : s.contextsOk) (other : ∀ v, v ≠ u → t.ctx v = s.ctx v) (dsc : t.dsc = s.dsc)
    (agrees : (t.ctx u).agrees u) (idle : (s.ctx u).state = .idle → s.dsc.part = .ready ∨ (t.ctx u).state = .idle)
    (selectQ : listFollows u s.ctb.selectQ t.ctb.selectQ ((t.ctx u).state = .queued))
    (stopQ : listFollows u s.ctb.stopQ t.ctb.stopQ ((t.ctx u).state = .disconnected ∧ (t.ctx u).halt ≠ none))
    (stopQueued : (t.ctx u).state = .disconnected ∧ (t.ctx u).halt ≠ none ↔ (t.ctx u).stopQueued = true)
    (held : ∀ p, listFollows u (s.heldList p) (t.heldList p) ((t.ctx u).state = .held ∧ (t.ctx u).owner = some p)) :
    t.contextsOk := by
  obtain ⟨h1, h2, h3, h4, h5, h6, h7, h8, h9⟩ := hs
  obtain ⟨a1, a2, a3⟩ := selectQ
  obtain ⟨b1, b2, b3⟩ := stopQ
  refine ⟨fun v => ?_, a1 h2, fun v => ?_, b1 h4, fun v => ?_, fun v => ?_, fun p => ⟨(held p).1 (h7 p).1, fun v => ?_⟩,
    fun hp v => ?_, by rw [dsc]; exact h9⟩
  all_goals by_cases hv : v = u
  · subst hv; exact agrees
  · rw [other v hv]; exact h1 v
  · subst hv; exact a2
  · rw [a3 v hv, other v hv]; exact h3 v
  · subst hv; exact b2
  · rw [b3 v hv, other v hv]; exact h5 v
  · subst hv; exact b2.trans stopQueued
  · rw [b3 v hv, other v hv]; exact h6 v
  · subst hv; exact (held p).2.1
  · rw [(held p).2.2 v hv, other v hv]; exact (h7 p).2 v
  · subst hv
    rw [dsc] at hp
    exact (idle (h8 hp v)).resolve_left hp
  · rw [dsc] at hp
    rw [other v hv]
    exact h8 hp v

/-- Where one context stands on the lists. -/
theorem contextsOk_at (hs : s.contextsOk) (u : UnitAddr) : (s.ctx u).agrees u ∧ (u ∈ s.ctb.selectQ ↔ (s.ctx u).state = .queued) ∧
    (u ∈ s.ctb.stopQ ↔ (s.ctx u).state = .disconnected ∧ (s.ctx u).halt ≠ none) ∧
    ((s.ctx u).state = .disconnected ∧ (s.ctx u).halt ≠ none ↔ (s.ctx u).stopQueued = true) ∧
    ∀ p, u ∈ s.heldList p ↔ (s.ctx u).state = .held ∧ (s.ctx u).owner = some p := by
  obtain ⟨h1, -, h3, -, h5, h6, h7, -⟩ := hs
  exact ⟨h1 u, h3 u, h5 u, (h5 u).symm.trans (h6 u), fun p => (h7 p).2 u⟩

/-- The contexts stay consistent when nothing they speak of changes. -/
theorem contextsOk_congr (hs : s.contextsOk) (ctb : t.ctb = s.ctb) (held : ∀ p, t.heldList p = s.heldList p)
    (dsc : t.dsc = s.dsc) : t.contextsOk := by
  have hc : ∀ v, t.ctx v = s.ctx v := fun v => by rw [State.ctx, ctb]; rfl
  unfold State.contextsOk at hs ⊢
  simpa only [hc, ctb, held, dsc] using hs

end

/-! ### The end of an order -/

section
variable (s : State) (u : UnitAddr)

/-- An order that ends is dropped, placed or held, also from a context that has no owner. -/
theorem endOrder_cases (n : Nat) : endedDropped u s (endOrder u n s) ∨
    ∃ p r, r.unit = u ∧ r.owner = p ∧ (s.ctx u).discard = false ∧
      (roomIn s p ∧ endedPlaced u p r s (endOrder u n s) ∨ ¬ roomIn s p ∧ (s.ctx u).owner = some p ∧
        endedHeld u p r s (endOrder u n s)) := by
  cases ho : (s.ctx u).owner with
  | none =>
    refine .inl ?_
    unfold endOrder
    rw [ho]
    refine ⟨by simp, by simp, fun v hv => by simp [hv], by simp, by simp, by simp, by simp, fun q => ?_, by simp [without],
      by simp [without], by simp⟩
    have hg : ({ s.ctx u with stopQueued := false } : Context).segIn q = (s.ctx u).segIn q := rfl
    simp [goIdle_page, hg]
  | some p =>
    obtain ⟨h1, h2, h3⟩ := endOrder_ended s u p n ho
    cases hd : (s.ctx u).discard with
    | true => exact .inl (h1 hd)
    | false =>
      refine .inr ⟨p, (s.ctx u).compose u p n, rfl, rfl, rfl, ?_⟩
      by_cases hr : roomIn s p
      · exact .inl ⟨hr, h2 hd hr⟩
      · exact .inr ⟨hr, rfl, h3 hd hr⟩

theorem endOrder_frame (n : Nat) : endFrame u s (endOrder u n s) := by
  rcases endOrder_cases s u n with ⟨-, -, h⟩ | ⟨p, r, -, -, -, ⟨-, -, -, -, -, -, -, h⟩ | ⟨-, -, -, -, -, -, h⟩⟩ <;> exact h

variable {s u}

/-- The contexts stay consistent when an order in progress ends, whatever its context has become meanwhile. -/
theorem contextsOk_endOrder (n : Nat) (f : Context → Context) (hs : s.contextsOk) (hp : (s.ctx u).inProgress = true) :
    (endOrder u n (s.modCtx u f)).contextsOk := by
  obtain ⟨hi, hh⟩ := inProgress_iff.mp hp
  obtain ⟨-, -, -, -, h7⟩ := contextsOk_at hs u
  obtain ⟨f1, -, -, f4, -, -, f7, f8, -⟩ := endOrder_frame (s.modCtx u f) u n
  have hselect : ∀ {on : Prop}, ¬ on → listFollows u s.ctb.selectQ (endOrder u n (s.modCtx u f)).ctb.selectQ on := by
    intro on h; rw [f7]; exact follows_without h
  have hstop : ∀ {on : Prop}, ¬ on → listFollows u s.ctb.stopQ (endOrder u n (s.modCtx u f)).ctb.stopQ on := by
    intro on h; rw [f8]; exact follows_without h
  have hother : ∀ v, v ≠ u → (endOrder u n (s.modCtx u f)).ctx v = s.ctx v := fun v hv => by
    rw [f1 v hv, ctx_modCtx, if_neg hv]
  have hnot : ∀ p, u ∉ s.heldList p := fun p => by rw [h7 p]; exact fun h => hh h.1
  rcases endOrder_cases (s.modCtx u f) u n with ⟨hc, hr, -⟩ | ⟨p, r, hu, ho, hd, ⟨-, -, -, hc, -, -, hl, -⟩ | ⟨-, hw, hc, hl, -⟩⟩
  · refine contextsOk_of_update hs hother f4 (by rw [hc]; exact agrees_idle) (fun h => absurd h hi)
      (hselect (by simp [hc])) (hstop (by simp [hc])) (by simp [hc]) fun p => ?_
    rw [show (endOrder u n (s.modCtx u f)).heldList p = s.heldList p from congrArg (·.heldLists.get p) hr]
    exact follows_same (by simp [hc, hnot])
  · refine contextsOk_of_update hs hother f4 (by rw [hc]; exact agrees_idle) (fun h => absurd h hi)
      (hselect (by simp [hc])) (hstop (by simp [hc])) (by simp [hc]) fun p => ?_
    rw [show (endOrder u n (s.modCtx u f)).heldList p = s.heldList p from congrArg (·.get p) hl]
    exact follows_same (by simp [hc, hnot])
  · refine contextsOk_of_update hs hother f4 ?_ (fun h => absurd h hi)
      (hselect (by rw [hc]; simp)) (hstop (by rw [hc]; simp)) (by rw [hc]; simp) fun x => ?_
    · rw [hc]
      exact agrees_held (r := r) rfl (by rw [ho]; exact hw) rfl hu rfl rfl hd rfl
    · rw [hl x]
      by_cases hx : x = p
      · subst hx
        rw [if_pos rfl]
        exact follows_append (hnot x) (by rw [hc]; exact ⟨rfl, hw⟩)
      · rw [if_neg hx]
        refine follows_same (iff_of_false (hnot x) ?_)
        rw [hc]
        rintro ⟨-, h⟩
        exact hx (Option.some.inj (h.symm.trans hw))

end

/-! ### Halt requests -/

section
variable (s : State) (u : UnitAddr)

/-- A context once a halt request has been set on it: a DISCONNECTED one is on the stop queue (R12, R15). -/
def halted (cause : HaltCause) (c : Context) : Context :=
  { c with halt := some (c.halt.getD cause), stopQueued := c.stopQueued || decide (c.state = .disconnected) }

theorem haltOnLink_ctx (cause : HaltCause) (v : UnitAddr) :
    (haltOnLink u cause s).ctx v = if v = u then halted cause (s.ctx u) else s.ctx v := by
  unfold haltOnLink joinStop halted
  by_cases hd : (s.ctx u).state = .disconnected <;> cases hq : (s.ctx u).stopQueued <;> by_cases hv : v = u <;>
    simp [hd, hq, hv, Context.requestHalt]

theorem haltOnLink_stopQ (cause : HaltCause) : (haltOnLink u cause s).ctb.stopQ =
    if (s.ctx u).state = .disconnected ∧ (s.ctx u).stopQueued = false then s.ctb.stopQ ++ [u] else s.ctb.stopQ := by
  unfold haltOnLink joinStop
  by_cases hd : (s.ctx u).state = .disconnected <;> cases hq : (s.ctx u).stopQueued <;>
    simp [hd, hq, Context.requestHalt]

variable {s u}

theorem agrees_halted {c : Context} (cause : HaltCause) (hl : c.onLink) (h : c.agrees u) : (halted cause c).agrees u := by
  obtain ⟨h1, h2, h3, -, h5⟩ := (agrees_onLink_iff hl).mp h
  exact (agrees_onLink_iff (c := halted cause c) hl).mpr ⟨h1, h2, h3, fun _ => by simp [halted], h5⟩

theorem contextsOk_haltOnLink (cause : HaltCause) (hs : s.contextsOk) (hl : (s.ctx u).onLink) :
    (haltOnLink u cause s).contextsOk := by
  obtain ⟨h1, h3, h5, h6, h7⟩ := contextsOk_at hs u
  obtain ⟨hi, hq, hh⟩ := not_idle_of_onLink hl
  have hself : (haltOnLink u cause s).ctx u = halted cause (s.ctx u) := by rw [haltOnLink_ctx, if_pos rfl]
  have hstate : (halted cause (s.ctx u)).state = (s.ctx u).state := rfl
  refine contextsOk_of_update hs (fun v hv => by rw [haltOnLink_ctx, if_neg hv]) (by simp) ?_ (fun h => absurd h hi)
    ?_ ?_ ?_ fun p => ?_
  all_goals rw [hself]
  · exact agrees_halted cause hl h1
  · rw [haltOnLink_selectQ]; exact follows_same (h3.trans (by rw [hstate]))
  · rw [haltOnLink_stopQ]
    split
    · next h => exact follows_append (by rw [h5, h6, h.2]; simp) ⟨h.1, by simp [halted]⟩
    · next h =>
      refine follows_same (h5.trans (and_congr_right fun hd => iff_of_true (h6.mpr ?_).2 (by simp [halted])))
      exact Bool.not_eq_false _ ▸ fun hx => h ⟨hd, hx⟩
  · by_cases hd : (s.ctx u).state = .disconnected
    · simp [halted, hd]
    · have : (s.ctx u).stopQueued = false := Bool.eq_false_iff.mpr fun h => hd (h6.mpr h).1
      simp [halted, hd, this]
  · rw [haltOnLink_heldList]; exact follows_same ((h7 p).trans (by rw [hstate]; rfl))

end

end Sys2Proof.StepActs
end

section
/-! PROOFS. PORT_RESET's pass over the contexts of a port: what becomes of each context and of the two queues of CTB. -/

namespace Sys2Proof.PortClear

open Sys2Proof.Machine Sys2Proof.Laws Sys2Proof.StepActs

/-- What PORT_RESET of its owner makes of a context (R22). -/
def cleared (c : Context) : Context :=
  match c.state with
  | .idle => c
  | .queued => {}
  | .held => {}
  | .selecting => { halted .portReset c with discard := true }
  | .connected => { halted .portReset c with discard := true }
  | .disconnected => { halted .portReset c with discard := true }

section
variable {s : State} {u v : UnitAddr}

theorem cleared_of_idle {c : Context} (h : c.state = .idle) : cleared c = c := by simp [cleared, h]

theorem cleared_of_dropped {c : Context} (h : c.state = .queued ∨ c.state = .held) : cleared c = {} := by
  rcases h with h | h <;> simp [cleared, h]

theorem cleared_of_onLink {c : Context} (h : c.onLink) : cleared c = { halted .portReset c with discard := true } := by
  rcases h with h | h | h <;> simp [cleared, h]

/-- The discard flag and the halt request of PORT_RESET on an order that has reached the link. -/
def dropped (u : UnitAddr) (s : State) : State :=
  haltOnLink u .portReset (s.modCtx u (fun c => { c with discard := true }))

theorem state_cases (c : Context) : c.state = .idle ∨ c.state = .queued ∨ c.state = .held ∨ c.onLink := by
  cases h : c.state <;> simp [Context.onLink, h]

theorem portResetContext_of_idle (h : (s.ctx u).state = .idle) : portResetContext u s = s := by
  simp [portResetContext, h]

theorem portResetContext_of_queued (h : (s.ctx u).state = .queued) :
    portResetContext u s = goIdle u (leaveQueues u s) := by
  simp [portResetContext, h]

theorem portResetContext_of_held (h : (s.ctx u).state = .held) : portResetContext u s = goIdle u s := by
  simp [portResetContext, h]

theorem portResetContext_of_onLink (h : (s.ctx u).onLink) : portResetContext u s = dropped u s := by
  rcases h with h | h | h <;> simp [portResetContext, h, dropped]

theorem dropped_ctx : (dropped u s).ctx v =
    if v = u then { halted .portReset (s.ctx u) with discard := true } else s.ctx v := by
  rw [dropped, haltOnLink_ctx, ctx_modCtx, ctx_modCtx]
  by_cases hv : v = u <;> simp [hv, halted]

theorem portResetContext_ctx : (portResetContext u s).ctx v = if v = u then cleared (s.ctx u) else s.ctx v := by
  rcases state_cases (s.ctx u) with h | h | h | h
  · rw [portResetContext_of_idle h, cleared_of_idle h]
    by_cases hv : v = u <;> simp [hv]
  · rw [portResetContext_of_queued h, cleared_of_dropped (.inl h)]
    by_cases hv : v = u <;> simp [hv]
  · rw [portResetContext_of_held h, cleared_of_dropped (.inr h)]
    by_cases hv : v = u <;> simp [hv]
  · rw [portResetContext_of_onLink h, cleared_of_onLink h, dropped_ctx]

theorem portResetContext_selectQ : (portResetContext u s).ctb.selectQ =
    s.ctb.selectQ.filter (fun v => ¬ (v = u ∧ (s.ctx u).state = .queued)) := by
  rcases state_cases (s.ctx u) with h | h | h | h
  · rw [portResetContext_of_idle h]; simp [h]
  · rw [portResetContext_of_queued h]; simp [h, without]
  · rw [portResetContext_of_held h]; simp [h]
  · rw [portResetContext_of_onLink h, dropped, haltOnLink_selectQ]
    rcases h with h | h | h <;> simp [h]

theorem portResetContext_stopQ : (portResetContext u s).ctb.stopQ =
    s.ctb.stopQ.filter (fun v => ¬ (v = u ∧ (s.ctx u).state = .queued)) ++
      if (s.ctx u).state = .disconnected ∧ (s.ctx u).stopQueued = false then [u] else [] := by
  rcases state_cases (s.ctx u) with h | h | h | h
  · rw [portResetContext_of_idle h]; simp [h]
  · rw [portResetContext_of_queued h]; simp [h, without]
  · rw [portResetContext_of_held h]; simp [h]
  · rw [portResetContext_of_onLink h, dropped, haltOnLink_stopQ]
    rcases h with h | h | h
    · simp [h]
    · simp [h]
    · by_cases hq : (s.ctx u).stopQueued = false <;> simp [h, hq]

end

/-! ### The pass over the contexts of a port -/

/-- PORT_RESET's pass over these contexts. -/
def clearAll (l : List UnitAddr) (s : State) : State := l.foldl (fun s u => portResetContext u s) s

section
variable (s : State)

theorem clearAll_cons (u : UnitAddr) (l : List UnitAddr) : clearAll (u :: l) s = clearAll l (portResetContext u s) := rfl

theorem clearAll_ctx : ∀ (l : List UnitAddr) (s : State), l.Nodup → ∀ v,
    (clearAll l s).ctx v = if v ∈ l then cleared (s.ctx v) else s.ctx v
  | [], s, _, v => by simp [clearAll]
  | u :: l, s, hl, v => by
    obtain ⟨hu, hl⟩ := List.nodup_cons.mp hl
    rw [clearAll_cons, clearAll_ctx l _ hl, portResetContext_ctx]
    by_cases hv : v = u
    · subst hv; simp [hu]
    · simp [hv]

theorem clearAll_selectQ : ∀ (l : List UnitAddr) (s : State), l.Nodup →
    (clearAll l s).ctb.selectQ = s.ctb.selectQ.filter (fun v => ¬ (v ∈ l ∧ (s.ctx v).state = .queued))
  | [], s, _ => by simp [clearAll]
  | u :: l, s, hl => by
    obtain ⟨hu, hl⟩ := List.nodup_cons.mp hl
    rw [clearAll_cons, clearAll_selectQ l _ hl, portResetContext_selectQ, List.filter_filter]
    refine List.filter_congr fun v _ => ?_
    rw [portResetContext_ctx]
    by_cases hv : v = u
    · subst hv; simp [hu]
    · simp [hv]

theorem clearAll_stopQ : ∀ (l : List UnitAddr) (s : State), l.Nodup →
    (clearAll l s).ctb.stopQ = s.ctb.stopQ.filter (fun v => ¬ (v ∈ l ∧ (s.ctx v).state = .queued)) ++
      l.filter (fun v => (s.ctx v).state = .disconnected ∧ (s.ctx v).stopQueued = false)
  | [], s, _ => by simp [clearAll]
  | u :: l, s, hl => by
    obtain ⟨hu, hl⟩ := List.nodup_cons.mp hl
    have hctx : ∀ v ∈ l, (portResetContext u s).ctx v = s.ctx v := fun v hv => by
      rw [portResetContext_ctx, if_neg (ne_of_mem_of_not_mem hv hu)]
    rw [clearAll_cons, clearAll_stopQ l _ hl, portResetContext_stopQ, List.filter_append, List.filter_filter,
      List.filter_cons, List.append_assoc]
    congr 1
    · refine List.filter_congr fun v _ => ?_
      rw [portResetContext_ctx]
      by_cases hv : v = u
      · subst hv; simp [hu]
      · simp [hv]
    · have hkeep : l.filter (fun v => ((portResetContext u s).ctx v).state = .disconnected ∧
          ((portResetContext u s).ctx v).stopQueued = false) =
          l.filter (fun v => (s.ctx v).state = .disconnected ∧ (s.ctx v).stopQueued = false) :=
        List.filter_congr fun v hv => by rw [hctx v hv]
      rw [hkeep]
      split
      · next h => simp [h, hu]
      · next h => simp [h]

variable (p : Port)

theorem clearPort_eq : clearPort p s = (((clearAll (s.ownedBy p) s).setHeldList p []).setQueue p []).setSeqNo p 0 := rfl

theorem clearPort_ctx (v : UnitAddr) : (clearPort p s).ctx v =
    if (s.ctx v).owner = some p then cleared (s.ctx v) else s.ctx v := by
  simp [clearPort_eq, clearAll_ctx _ s (ownedBy_nodup p s), mem_ownedBy]

theorem clearPort_selectQ : (clearPort p s).ctb.selectQ =
    s.ctb.selectQ.filter (fun v => ¬ ((s.ctx v).owner = some p ∧ (s.ctx v).state = .queued)) := by
  simp [clearPort_eq, clearAll_selectQ _ s (ownedBy_nodup p s), mem_ownedBy]

theorem clearPort_stopQ : (clearPort p s).ctb.stopQ =
    s.ctb.stopQ.filter (fun v => ¬ ((s.ctx v).owner = some p ∧ (s.ctx v).state = .queued)) ++
      (s.ownedBy p).filter (fun v => (s.ctx v).state = .disconnected ∧ (s.ctx v).stopQueued = false) := by
  simp [clearPort_eq, clearAll_stopQ _ s (ownedBy_nodup p s), mem_ownedBy]

theorem clearPort_heldList (x : Port) : (clearPort p s).heldList x = if x = p then [] else s.heldList x := by
  by_cases hx : x = p <;>
    simp [clearPort_eq, hx, clearAll, foldl_keeps (fun s u => portResetContext u s) (·.heldList x)]

theorem clearPort_queue (x : Port) : (clearPort p s).queue x = if x = p then [] else s.queue x := by
  by_cases hx : x = p <;>
    simp [clearPort_eq, hx, clearAll, foldl_keeps (fun s u => portResetContext u s) (·.queue x)]

theorem clearPort_seqNo (x : Port) : (clearPort p s).seqNo x = if x = p then 0 else s.seqNo x := by
  by_cases hx : x = p <;>
    simp [clearPort_eq, hx, clearAll, foldl_keeps (fun s u => portResetContext u s) (·.seqNo x)]

/-! ### The contexts after it -/

variable {s} {p}

theorem agrees_cleared {c : Context} {u : UnitAddr} (h : c.agrees u) : (cleared c).agrees u := by
  rcases state_cases c with hi | hq | hh | hl
  · rw [cleared_of_idle hi]; exact h
  · rw [cleared_of_dropped (.inl hq)]; exact agrees_idle
  · rw [cleared_of_dropped (.inr hh)]; exact agrees_idle
  · obtain ⟨h1, h2, h3, -, h5⟩ := (agrees_onLink_iff hl).mp h
    rw [cleared_of_onLink hl]
    exact (agrees_onLink_iff (c := { halted .portReset c with discard := true }) hl).mpr
      ⟨h1, h2, h3, fun _ => by simp [halted], h5⟩

theorem cleared_state (c : Context) : (cleared c).state = if c.state = .queued ∨ c.state = .held then .idle else c.state := by
  rcases state_cases c with hi | hq | hh | hl
  · simp [cleared_of_idle hi, hi]
  · simp [cleared_of_dropped (.inl hq), hq]
  · simp [cleared_of_dropped (.inr hh), hh]
  · obtain ⟨-, hq, hh⟩ := not_idle_of_onLink hl
    simp [cleared_of_onLink hl, hq, hh, halted]

theorem cleared_state_ne (c : Context) : (cleared c).state ≠ .queued ∧ (cleared c).state ≠ .held := by
  rw [cleared_state]
  split
  · exact ⟨nofun, nofun⟩
  · next h => exact ⟨fun hq => h (.inl hq), fun hh => h (.inr hh)⟩

/-- The stop queue holds, after it, the contexts of the port that are DISCONNECTED and those it held before. -/
theorem cleared_stop {c : Context} (h : c.state = .disconnected ∧ c.halt ≠ none ↔ c.stopQueued = true) :
    ((cleared c).state = .disconnected ∧ (cleared c).halt ≠ none ↔ c.state = .disconnected) ∧
      ((cleared c).stopQueued = true ↔ c.state = .disconnected) := by
  have hq : c.state ≠ .disconnected → c.stopQueued = false := fun hd => Bool.eq_false_iff.mpr fun hq => hd (h.mpr hq).1
  rcases state_cases c with hi | hd | hd | hl
  · simp [cleared_of_idle hi, hi, hq]
  · simp [cleared_of_dropped (.inl hd), hd]
  · simp [cleared_of_dropped (.inr hd), hd]
  · rw [cleared_of_onLink hl]
    by_cases hd : c.state = .disconnected
    · simp [halted, hd]
    · simp [halted, hd, hq hd]

theorem contextsOk_clearPort (p : Port) (hs : s.contextsOk) : (clearPort p s).contextsOk := by
  obtain ⟨h1, h2, h3, h4, h5, h6, h7, h8, h9⟩ := hs
  have hstop : ∀ u, (s.ctx u).state = .disconnected ∧ (s.ctx u).halt ≠ none ↔ (s.ctx u).stopQueued = true :=
    fun u => (h5 u).symm.trans (h6 u)
  have hmem : ∀ u, u ∈ (clearPort p s).ctb.stopQ ↔
      u ∈ s.ctb.stopQ ∨ (s.ctx u).owner = some p ∧ (s.ctx u).state = .disconnected := by
    intro u
    rw [clearPort_stopQ, List.mem_append, List.mem_filter, List.mem_filter, mem_ownedBy]
    constructor
    · rintro (⟨h, -⟩ | ⟨h, hd⟩)
      · exact .inl h
      · exact .inr ⟨h, (of_decide_eq_true hd).1⟩
    · rintro (h | ⟨ho, hd⟩)
      · refine .inl ⟨h, ?_⟩
        simp [((h5 u).mp h).1]
      · by_cases hq : u ∈ s.ctb.stopQ
        · exact .inl ⟨hq, by simp [hd]⟩
        · exact .inr ⟨ho, by simpa [hd, h6] using hq⟩
  refine ⟨fun u => ?_, ?_, fun u => ?_, ?_, fun u => ?_, fun u => ?_, fun x => ⟨?_, fun u => ?_⟩, fun hp u => ?_, ?_⟩
  · rw [clearPort_ctx]
    split
    · exact agrees_cleared (h1 u)
    · exact h1 u
  · rw [clearPort_selectQ]; exact h2.filter _
  · rw [clearPort_selectQ, clearPort_ctx, List.mem_filter, h3]
    by_cases ho : (s.ctx u).owner = some p
    · simp [ho, (cleared_state_ne _).1]
    · simp [ho]
  · rw [clearPort_stopQ]
    refine List.nodup_append.mpr ⟨h4.filter _, (ownedBy_nodup p s).filter _, ?_⟩
    rintro u hu _ hv rfl
    have hq := (h6 u).mp (List.mem_filter.mp hu).1
    have hf := (List.mem_filter.mp hv).2
    simp [hq] at hf
  · rw [hmem, clearPort_ctx, h5]
    split
    · next ho => rw [(cleared_stop (hstop u)).1]; simp +contextual [ho, or_iff_right_of_imp]
    · next ho => simp [ho]
  · rw [hmem, clearPort_ctx, h6]
    split
    · next ho =>
      rw [(cleared_stop (hstop u)).2, ← hstop u]
      simp +contextual [ho, or_iff_right_of_imp]
    · next ho => simp [ho]
  · rw [clearPort_heldList]
    split
    · exact List.nodup_nil
    · exact (h7 x).1
  · rw [clearPort_heldList, clearPort_ctx]
    by_cases hx : x = p
    · subst hx
      by_cases ho : (s.ctx u).owner = some x
      · simp [ho, (cleared_state_ne _).2]
      · simp [ho]
    · rw [if_neg hx, (h7 x).2]
      by_cases ho : (s.ctx u).owner = some p
      · have hpx : p ≠ x := fun h => hx h.symm
        simp [ho, hpx, (cleared_state_ne _).2]
      · simp [ho]
  · rw [clearPort_dsc] at hp
    rw [clearPort_ctx]
    split
    · rw [cleared_of_idle (h8 hp u)]; exact h8 hp u
    · exact h8 hp u
  · rw [clearPort_dsc]; exact h9

end

end Sys2Proof.PortClear
end

section
/-! PROOFS. Every act keeps the contexts consistent. -/

namespace Sys2Proof.StepActs

open Sys2Proof.Machine Sys2Proof.Laws Sys2Proof.UnitContexts Sys2Proof.PortClear

section
variable {D : Scope} {s t : State} {u : UnitAddr}

theorem contextsOk_modCtx {f : Context → Context} (hs : s.contextsOk) (h : Kept D (s.ctx u) (f (s.ctx u))) :
    (s.modCtx u f).contextsOk := by
  obtain ⟨h1, h3, h5, h6, h7⟩ := contextsOk_at hs u
  have hself : (s.modCtx u f).ctx u = f (s.ctx u) := by simp
  refine contextsOk_of_update (u := u) hs (fun v hv => by simp [hv]) rfl ?_ ?_ ?_ ?_ ?_ fun p => ?_
  all_goals rw [hself]
  · exact h.agrees u h1
  · exact fun hi => .inr (h.idle hi)
  · exact follows_same (h3.trans h.queued.symm)
  · exact follows_same (h5.trans h.stop.symm)
  · rw [h.stopQueued]; exact h.stop.trans h6
  · exact follows_same ((h7 p).trans (h.held p).symm)

theorem contextsOk_dsc {f : Dsc → Dsc} (hs : s.contextsOk) (h : DscKept s.dsc (f s.dsc)) : (s.modDsc f).contextsOk := by
  obtain ⟨h1, h2, h3, h4, h5, h6, h7, h8, h9⟩ := hs
  obtain ⟨hload, hready⟩ := h.load h9
  exact ⟨h1, h2, h3, h4, h5, h6, h7, fun hp => h8 (hready hp), hload⟩

/-- The segment of a context that has reached the link is replaced. -/
theorem contextsOk_replaceSegment (a : Word) (n : Nat) (hs : s.contextsOk) (hl : (s.ctx u).onLink) :
    (replaceSegment u a n s).contextsOk := by
  obtain ⟨h1, h3, h5, h6, h7⟩ := contextsOk_at hs u
  have hself : (replaceSegment u a n s).ctx u =
      { s.ctx u with seg := some { addr := a, remaining := n, page := pageOf a } } := by simp
  refine contextsOk_of_update (u := u) hs (fun v hv => by simp [hv]) (by simp [replaceSegment]) ?_
    (fun h => absurd h (not_idle_of_onLink hl).1) ?_ ?_ ?_ fun p => ?_
  all_goals rw [hself]
  · obtain ⟨a1, a2, a3, a4, a5⟩ := (agrees_onLink_iff hl).mp h1
    exact (agrees_onLink_iff (c := { s.ctx u with seg := some { addr := a, remaining := n, page := pageOf a } }) hl).mpr
      ⟨a1, a2, a3, a4, a5⟩
  · simp only [replaceSegment, modCtx_selectQ, lowerSeg_selectQ, raisePage_selectQ]; exact follows_same h3
  · simp only [replaceSegment, modCtx_stopQ, lowerSeg_stopQ, raisePage_stopQ]; exact follows_same h5
  · exact h6
  · simp only [replaceSegment, modCtx_heldList, lowerSeg_heldList, raisePage_heldList]; exact follows_same (h7 p)

theorem contextsOk_queueStart (p : Port) (d : Descriptor) (a : Word) (jumps : Nat) (hs : s.contextsOk)
    (hr : s.dsc.part = .ready) (hi : (s.ctx u).state = .idle) : (queueStart p u d a jumps s).contextsOk := by
  obtain ⟨-, h3, h5, -, h7⟩ := contextsOk_at hs u
  have hself : (queueStart p u d a jumps s).ctx u =
      { state := .queued, owner := some p, desc := some d, descAddr := some a, jumps := jumps } := by simp [queueStart]
  refine contextsOk_of_update (u := u) hs (fun v hv => by simp [queueStart, hv]) (by simp [queueStart]) ?_ (fun _ => .inl hr)
    ?_ ?_ ?_ fun x => ?_
  all_goals rw [hself]
  · exact agrees_queued rfl (by simp) rfl rfl rfl rfl rfl
  · simp only [queueStart, selectQ_modSelectQ, modCtx_selectQ, ceaseSegment_selectQ]
    exact follows_append (by rw [h3, hi]; exact nofun) trivial
  · simp only [queueStart, modSelectQ_stopQ, modCtx_stopQ, ceaseSegment_stopQ]
    exact follows_same (by simp [h5, hi])
  · simp
  · simp only [queueStart, modSelectQ_heldList, modCtx_heldList, ceaseSegment_heldList]
    exact follows_same (by simp [h7, hi])

theorem contextsOk_queueChained (d : Descriptor) (a : Word) (hs : s.contextsOk) (hc : (s.ctx u).state = .connected)
    (hh : (s.ctx u).halt = none) : (queueChained u d a s).contextsOk := by
  obtain ⟨h1, h3, h5, h6, h7⟩ := contextsOk_at hs u
  obtain ⟨ho, -, hr, hx, -⟩ := (agrees_onLink_iff (onLink_of_connected hc)).mp h1
  have hdiscard : (s.ctx u).discard = false := Bool.eq_false_iff.mpr fun h => hx h hh
  have hstop : (s.ctx u).stopQueued = false := Bool.eq_false_iff.mpr fun h => (h6.mpr h).2 hh
  have hself : (queueChained u d a s).ctx u = { s.ctx u with
      state := .queued, desc := some d, descAddr := some a, seg := none, lookahead := .absent, unitStatus := none,
      silence := .stopped } := by simp [queueChained]
  refine contextsOk_of_update (u := u) hs (fun v hv => by simp [queueChained, hv]) (by simp [queueChained]) ?_
    (fun h => absurd (h.symm.trans hc) nofun) ?_ ?_ ?_ fun x => ?_
  all_goals rw [hself]
  · exact agrees_queued rfl ho rfl hr rfl hdiscard rfl
  · simp only [queueChained, selectQ_modSelectQ, modCtx_selectQ, ceaseSegment_selectQ]
    exact follows_append (by rw [h3, hc]; exact nofun) trivial
  · simp only [queueChained, modSelectQ_stopQ, modCtx_stopQ, ceaseSegment_stopQ]
    exact follows_same (by simp [h5, hh])
  · simp [hstop]
  · simp only [queueChained, modSelectQ_heldList, modCtx_heldList, ceaseSegment_heldList]
    exact follows_same (by simp [h7, hc])

theorem enterSelecting_self : (enterSelecting u s).ctx u =
    { s.ctx u with state := .selecting, silence := .stopped, stopQueued := false } := by
  simp [enterSelecting]

/-- A context in SELECTING, taken from a state in which an order is in progress. -/
theorem agrees_selecting {c : Context} (hp : c.inProgress = true) (h : c.agrees u) (hx : c.discard = true → c.halt ≠ none) :
    ({ c with state := .selecting, silence := .stopped, stopQueued := false } : Context).agrees u := by
  obtain ⟨h1, -, h3, ⟨h4, -⟩, -⟩ := h
  obtain ⟨hi, hh⟩ := inProgress_iff.mp hp
  refine (agrees_onLink_iff (.inl rfl)).mpr ⟨fun ho => hi (h1.mp ho), h3.mpr hp, ?_, hx, nofun⟩
  exact Option.not_isSome_iff_eq_none.mp fun h => hh (h4.mp h)

theorem contextsOk_selectHalt {rest : List UnitAddr} (hs : s.contextsOk) (h : s.ctb.stopQ = u :: rest) :
    (enterSelecting u (s.modStopQ (fun _ => rest))).contextsOk := by
  obtain ⟨h1, h3, h5, -, h7⟩ := contextsOk_at hs u
  obtain ⟨-, -, -, h4, -⟩ := id hs
  obtain ⟨hd, hh⟩ := h5.mp (by simp [h])
  refine contextsOk_of_update (s := s) (u := u) hs (fun v hv => by simp [enterSelecting, hv]) rfl ?_
    (fun hi => absurd (hi.symm.trans hd) nofun) ?_ ?_ ?_ fun p => ?_
  all_goals rw [enterSelecting_self]
  · exact agrees_selecting (inProgress_of_onLink (.inr (.inr hd))) h1 fun _ => hh
  · exact follows_same (by simp [h3, hd])
  · exact follows_tail h h4 (by simp)
  · simp
  · exact follows_same (by simp [h7, hd])

theorem contextsOk_selectQueued {rest : List UnitAddr} (hs : s.contextsOk) (h : s.ctb.selectQ = u :: rest) :
    (enterSelecting u (s.modSelectQ (fun _ => rest))).contextsOk := by
  obtain ⟨h1, h3, h5, -, h7⟩ := contextsOk_at hs u
  obtain ⟨-, h2, -⟩ := id hs
  have hq := h3.mp (by simp [h])
  refine contextsOk_of_update (s := s) (u := u) hs (fun v hv => by simp [enterSelecting, hv]) rfl ?_
    (fun hi => absurd (hi.symm.trans hq) nofun) ?_ ?_ ?_ fun p => ?_
  all_goals rw [enterSelecting_self]
  · obtain ⟨-, -, -, -, -, hx, -⟩ := id h1
    exact agrees_selecting (by simp [Context.inProgress, hq]) h1 fun hd => (hx hd).1
  · exact follows_tail h h2 (by simp)
  · exact follows_same (by simp [h5, hq])
  · simp
  · exact follows_same (by simp [h7, hq])

theorem enterDisconnected_ctx (s : State) (u v : UnitAddr) : (enterDisconnected u s).ctx v = if v = u then
    { s.ctx u with state := .disconnected, silence := s.silenceStart u,
                   stopQueued := (s.ctx u).stopQueued || decide ((s.ctx u).halt ≠ none) } else s.ctx v := by
  unfold enterDisconnected joinStop
  by_cases hh : (s.ctx u).halt = none <;> cases hq : (s.ctx u).stopQueued <;> by_cases hv : v = u <;> simp [hh, hq, hv]

theorem enterDisconnected_stopQ (s : State) (u : UnitAddr) : (enterDisconnected u s).ctb.stopQ =
    if (s.ctx u).halt ≠ none ∧ (s.ctx u).stopQueued = false then s.ctb.stopQ ++ [u] else s.ctb.stopQ := by
  unfold enterDisconnected joinStop
  by_cases hh : (s.ctx u).halt = none <;> cases hq : (s.ctx u).stopQueued <;> simp [hh, hq]

theorem contextsOk_enterDisconnected (hs : s.contextsOk) (h : (s.ctx u).state = .selecting ∨ (s.ctx u).state = .connected) :
    (enterDisconnected u s).contextsOk := by
  obtain ⟨h1, h3, h5, h6, h7⟩ := contextsOk_at hs u
  have hl : (s.ctx u).onLink := h.elim .inl fun h => .inr (.inl h)
  obtain ⟨hi, hq, hh⟩ := not_idle_of_onLink hl
  have hd : (s.ctx u).state ≠ .disconnected := by rcases h with h | h <;> rw [h] <;> exact nofun
  have hstop : (s.ctx u).stopQueued = false := Bool.eq_false_iff.mpr fun h => hd (h6.mpr h).1
  obtain ⟨a1, a2, a3, a4, -⟩ := (agrees_onLink_iff hl).mp h1
  have hself : (enterDisconnected u s).ctx u = { s.ctx u with
      state := .disconnected, silence := s.silenceStart u, stopQueued := decide ((s.ctx u).halt ≠ none) } := by
    rw [enterDisconnected_ctx, if_pos rfl, hstop, Bool.false_or]
  refine contextsOk_of_update (u := u) hs (fun v hv => by rw [enterDisconnected_ctx, if_neg hv]) (by simp) ?_
    (fun h => absurd h hi) ?_ ?_ ?_ fun p => ?_
  all_goals rw [hself]
  · exact (agrees_onLink_iff (.inr (.inr rfl))).mpr ⟨a1, a2, a3, a4, fun _ => rfl⟩
  · rw [enterDisconnected_selectQ]; exact follows_same (by simp [h3, hq])
  · rw [enterDisconnected_stopQ]
    split
    · next hx => exact follows_append (by rw [h5]; exact fun h => hd h.1) ⟨rfl, hx.1⟩
    · next hx =>
      refine follows_same (iff_of_false (by rw [h5]; exact fun h => hd h.1) fun h => hx ⟨h.2, hstop⟩)
  · simp
  · rw [enterDisconnected_heldList]; exact follows_same (by simp [h7, hh])

theorem contextsOk_connect (hs : s.contextsOk) (hd : (s.ctx u).state = .disconnected) : (connect u s).contextsOk := by
  obtain ⟨h1, h3, h5, -, h7⟩ := contextsOk_at hs u
  obtain ⟨a1, a2, a3, a4, -⟩ := (agrees_onLink_iff (.inr (.inr hd))).mp h1
  have hself : (connect u s).ctx u =
      { s.ctx u with state := .connected, silence := .stopped, stopQueued := false } := by simp [connect]
  refine contextsOk_of_update (u := u) hs (fun v hv => by simp [connect, hv]) rfl ?_
    (fun h => absurd (h.symm.trans hd) nofun) ?_ ?_ ?_ fun p => ?_
  all_goals rw [hself]
  · exact (agrees_onLink_iff (.inr (.inl rfl))).mpr ⟨a1, a2, a3, a4, nofun⟩
  · rw [connect_selectQ]; exact follows_same (by simp [h3, hd])
  · exact follows_without (by simp)
  · simp
  · rw [connect_heldList]; exact follows_same (by simp [h7, hd])

/-! ### Held contexts -/

/-- A context leaves its held list for IDLE. -/
theorem contextsOk_release {p : Port} (hs : s.contextsOk) (hh : (s.ctx u).state = .held) (ho : (s.ctx u).owner = some p)
    (hu : t.ctx u = {}) (other : ∀ v, v ≠ u → t.ctx v = s.ctx v) (dsc : t.dsc = s.dsc)
    (selectQ : t.ctb.selectQ = s.ctb.selectQ) (stopQ : t.ctb.stopQ = s.ctb.stopQ)
    (held : listFollows u (s.heldList p) (t.heldList p) False) (peer : ∀ x, x ≠ p → t.heldList x = s.heldList x) :
    t.contextsOk := by
  obtain ⟨-, h3, h5, -, h7⟩ := contextsOk_at hs u
  refine contextsOk_of_update hs other dsc (by rw [hu]; exact agrees_idle) (fun h => absurd (h.symm.trans hh) nofun)
    ?_ ?_ ?_ fun x => ?_
  all_goals rw [hu]
  · rw [selectQ]; exact follows_same (by simp [h3, hh])
  · rw [stopQ]; exact follows_same (by simp [h5, hh])
  · simp
  · by_cases hx : x = p
    · subst hx; simpa using held
    · rw [peer x hx]
      refine follows_same (iff_of_false (fun h => hx ?_) (by simp))
      exact Option.some.inj (((h7 x).mp h).2.symm.trans ho)

/-- The head of a held list leaves it with its record, if it has one (R120). -/
theorem refill_of_held {p : Port} {us : List UnitAddr} (h : s.heldList p = u :: us) : ∃ x, refill p s = goIdle u x ∧
    ((s.ctx u).heldRecord = none ∧ x = s.setHeldList p us ∨ ∃ r, (s.ctx u).heldRecord = some r ∧ x = enqueue p (.completion r) (s.setHeldList p us)) := by
  unfold refill
  rw [h]
  dsimp only
  split
  · next hr => exact ⟨_, rfl, .inl ⟨hr, rfl⟩⟩
  · next r hr => exact ⟨_, rfl, .inr ⟨r, hr, rfl⟩⟩

theorem contextsOk_removeHead (p : Port) (hs : s.contextsOk) : (removeHead p s).contextsOk := by
  unfold removeHead
  cases hl : s.heldList p with
  | nil =>
    have : refill p (s.setQueue p (s.queue p).tail) = s.setQueue p (s.queue p).tail := by simp [refill, hl]
    rw [this]
    exact contextsOk_congr hs rfl (fun _ => rfl) rfl
  | cons u us =>
    obtain ⟨-, -, -, -, h7⟩ := contextsOk_at hs u
    obtain ⟨hh, ho⟩ := (h7 p).mp (by simp [hl])
    have hn : (s.heldList p).Nodup := by
      obtain ⟨-, -, -, -, -, -, h7, -⟩ := hs
      exact (h7 p).1
    have hf : listFollows u (s.heldList p) us False := follows_tail hl hn id
    obtain ⟨x, hx, hx'⟩ := refill_of_held (s := s.setQueue p (s.queue p).tail) (p := p) (u := u) (us := us) (by simpa using hl)
    rw [hx]
    rcases hx' with ⟨-, rfl⟩ | ⟨r, -, rfl⟩
    all_goals
      refine contextsOk_release hs hh ho (by simp) (fun v hv => by simp [hv]) (by simp) (by simp) (by simp) (by simpa using hf)
        fun y hy => by simp [hy]

/-- An adopted HELD context is held by the adopter's list, or it has gone to IDLE (R145). -/
theorem contextsOk_adoptHeld {y : Port} (hs : s.contextsOk) (hh : (s.ctx u).state = .held)
    (ho : (s.ctx u).owner = some y.peer) : (adoptHeld y u s).contextsOk := by
  obtain ⟨h1, h3, h5, h6, h7⟩ := contextsOk_at hs u
  obtain ⟨-, -, hdesc, ⟨hr, hr'⟩, hseg, hdiscard, hsilence⟩ := h1
  have hwithout : listFollows u (s.heldList y.peer) (without u (s.heldList y.peer)) False := follows_without id
  have hnot : u ∉ s.heldList y := fun h => absurd (((h7 y).mp h).2.symm.trans ho) (by simp)
  unfold adoptHeld
  dsimp only
  split
  · exact contextsOk_release hs hh ho (by simp) (fun v hv => by simp [hv]) (by simp) (by simp) (by simp)
      (by simpa using hwithout) fun x hx => by simp [hx]
  · next r hrec =>
    split
    · generalize ht : State.setHeldList _ y _ = t
      have hself : t.ctx u = { s.ctx u with
          owner := some y, adopted := true,
          heldRecord := some { r with owner := y, conds := r.conds.add .adopted } } := by simp [← ht]
      refine contextsOk_of_update (u := u) hs (fun v hv => by simp [← ht, hv]) (by rw [← ht]; rfl) ?_
        (fun h => absurd (h.symm.trans hh) nofun) ?_ ?_ ?_ fun x => ?_
      all_goals rw [hself]
      · refine agrees_held (r := { r with owner := y, conds := r.conds.add .adopted }) hh rfl rfl (hr' r hrec).1 ?_ ?_ ?_ ?_
        · exact Option.not_isSome_iff_eq_none.mp fun h => absurd (hdesc.mp h) (by simp [Context.inProgress, hh])
        · exact not_not.mp fun h => absurd (hseg h) (by simp [Context.onLink, hh])
        · exact Bool.eq_false_iff.mpr fun h => absurd (hdiscard h).2 (by simp [Context.onLink, hh])
        · exact Bool.eq_false_iff.mpr fun h => absurd (hsilence h) (by simp [hh])
      · rw [← ht]; exact follows_same h3
      · rw [← ht]; exact follows_same h5
      · exact h6
      · by_cases hx : x = y
        · subst hx
          have : t.heldList x = s.heldList x ++ [u] := by simp [← ht]
          rw [this]
          exact follows_append hnot ⟨hh, rfl⟩
        · have hx' : x = y.peer := (eq_or_eq_peer y x).resolve_left hx
          subst hx'
          have : t.heldList y.peer = without u (s.heldList y.peer) := by simp [← ht]
          rw [this]
          exact follows_without (by simp)
    · exact contextsOk_release hs hh ho (by simp) (fun v hv => by simp [hv]) (by simp) (by simp) (by simp)
        (by simpa using hwithout) fun x hx => by simp [hx]

end

/-! ### Every act -/

section
variable {D : Scope} {s t : State}

theorem contextsOk_clear (hs : s.contextsOk) (h : ∀ u, (s.ctx u).inProgress = false) :
    ((s.modSelectQ (fun _ => [])).modStopQ (fun _ => [])).contextsOk := by
  obtain ⟨h1, -, -, -, h5, h6, h7, h8, h9⟩ := hs
  have hq : ∀ u, (s.ctx u).state ≠ .queued := fun u hq => by simpa [Context.inProgress, hq] using h u
  have hd : ∀ u, (s.ctx u).state ≠ .disconnected := fun u hd => by simpa [Context.inProgress, hd] using h u
  exact ⟨h1, List.nodup_nil, fun u => iff_of_false List.not_mem_nil (hq u), List.nodup_nil,
    fun u => iff_of_false List.not_mem_nil fun h => hd u h.1,
    fun u => iff_of_false List.not_mem_nil fun h => hd u ((h5 u).mp ((h6 u).mpr h)).1, h7, h8, h9⟩

theorem resetBlocks_ctx (cause : ResetCause) (s : State) (u : UnitAddr) : (resetBlocks cause s).ctx u = {} := by
  simp [resetBlocks, State.ctx, Ctb.reset]

theorem resetBlocks_heldList (cause : ResetCause) (s : State) (p : Port) : (resetBlocks cause s).heldList p = [] := by
  cases p <;> rfl

theorem contextsOk_reset (cause : ResetCause) (s : State) : (resetBlocks cause s).contextsOk := by
  refine ⟨fun u => ?_, List.nodup_nil, fun u => ?_, List.nodup_nil, fun u => ?_, fun u => ?_, fun p => ⟨?_, fun u => ?_⟩,
    fun _ u => ?_, ?_⟩
  · rw [resetBlocks_ctx]; exact agrees_idle
  · rw [resetBlocks_ctx]; exact iff_of_false List.not_mem_nil nofun
  · rw [resetBlocks_ctx]; exact iff_of_false List.not_mem_nil (by simp)
  · rw [resetBlocks_ctx]; exact iff_of_false List.not_mem_nil (by simp)
  · rw [resetBlocks_heldList]; exact List.nodup_nil
  · rw [resetBlocks_heldList, resetBlocks_ctx]; exact iff_of_false List.not_mem_nil (by simp)
  · rw [resetBlocks_ctx]
  · exact fun _ => rfl

theorem Quiet.keeps_contextsOk (h : Quiet D s t) (hs : s.contextsOk) : t.contextsOk := by
  cases h
  case port p f _ => exact contextsOk_congr hs rfl (fun _ => rfl) rfl
  case place p b _ => exact contextsOk_congr hs rfl (fun _ => rfl) rfl
  case remove p _ => exact contextsOk_removeHead p hs
  case defer l _ => exact contextsOk_congr hs rfl (fun _ => rfl) rfl
  case tag x qs _ =>
    obtain ⟨-, hrcm, hctb, hdsc, -⟩ := tagPages_rest s x qs
    exact contextsOk_congr hs hctb (fun p => congrArg (·.heldLists.get p) hrcm) hdsc
  case write a bs => exact contextsOk_congr hs (by simp) (fun _ => by simp) (by simp)
  case ctx u f h _ => exact contextsOk_modCtx hs h
  case current u p a n hl _ _ _ => exact contextsOk_replaceSegment a n hs hl
  case start p u d a jumps hr hi _ => exact contextsOk_queueStart p d a jumps hs hr hi
  case halt u cause hl => exact contextsOk_haltOnLink cause hs hl
  case finishQueued u n f hq _ => exact contextsOk_endOrder n f hs (by simp [Context.inProgress, hq])
  case adoptHeld y u hh ho => exact contextsOk_adoptHeld hs hh ho
  case clearPort p => exact contextsOk_clearPort p hs
  case dsc f h _ => exact contextsOk_dsc hs h

theorem Act.keeps_contextsOk (h : Act D s t) (hs : s.contextsOk) : t.contextsOk := by
  cases h
  case quiet h => exact h.keeps_contextsOk hs
  case lnk f => exact contextsOk_congr hs rfl (fun _ => rfl) rfl
  case dsc f h => exact contextsOk_dsc hs h
  case ctx u f h => exact contextsOk_modCtx hs h
  case finish u n f hp _ => exact contextsOk_endOrder n f hs hp
  case chain u d a hc hh _ => exact contextsOk_queueChained d a hs hc hh
  case selectHalt u rest h => exact contextsOk_selectHalt hs h
  case selectQueued u rest h => exact contextsOk_selectQueued hs h
  case disconnect u h => exact contextsOk_enterDisconnected hs h
  case connect u h => exact contextsOk_connect hs h
  case clearQueues h => exact contextsOk_clear hs h
  case reset cause => exact contextsOk_reset cause s

/-- Settles O56: each act changes one context and lets the lists follow it, or it empties them with their contexts. -/
theorem everyStepKeepsTheContextsConsistent : Obligations.EveryStepKeepsTheContextsConsistent := fun _ _ hs hstep =>
  step_keeps (D := .moving) hstep (fun _ => False.elim) trivial (fun _ => hs) fun _ _ h => h.keeps_contextsOk

end

end Sys2Proof.StepActs
end

section
/-! PROOFS. Every act keeps the completion queues numbered and full where a record is held. -/

namespace Sys2Proof.StepActs

open Sys2Proof.Machine Sys2Proof.Laws Sys2Proof.UnitContexts Sys2Proof.PortClear

/-! ### Consecutive numbers -/

section
variable {q : List Record} {n : Word}

theorem numbered_nil : numbered [] n := fun i hi => absurd hi (Nat.not_lt_zero i)

theorem numbered_append (b : RecordBody) (h : numbered q n) : numbered (q ++ [{ seq := n, body := b }]) (n + 1) := by
  intro i hi
  rw [List.length_append, List.length_singleton] at hi ⊢
  rw [List.map_append]
  by_cases hq : i < q.length
  · rw [List.getElem?_append_left (by simpa using hq), h i hq, show q.length + 1 - i = (q.length - i) + 1 by omega]
    congr 1
    rw [show BitVec.ofNat 16 ((q.length - i) + 1) = BitVec.ofNat 16 (q.length - i) + 1 by simp [BitVec.ofNat_add]]
    exact (add_sub_add_right_eq_sub n (BitVec.ofNat 16 (q.length - i)) 1).symm
  · have hi' : i = q.length := by omega
    subst hi'
    simp

theorem numbered_tail (h : numbered q n) : numbered q.tail n := by
  intro i hi
  rw [List.length_tail] at hi ⊢
  have h1 := h (i + 1) (by omega)
  rw [List.getElem?_map] at h1 ⊢
  rw [List.getElem?_tail, h1]
  congr 3
  omega

end

/-! ### The queues -/

/-- A queue of at most 16 records with consecutive sequence numbers up to its counter. -/
def queueOk (s : State) (p : Port) : Prop := (s.queue p).length ≤ Config.queueDepth ∧ numbered (s.queue p) (s.seqNo p)

section
variable {s t : State} {p x : Port}

theorem queueOk_congr (h : queueOk s p) (hq : t.queue p = s.queue p) (hn : t.seqNo p = s.seqNo p) : queueOk t p := by
  unfold queueOk
  rwa [hq, hn]

theorem queueOk_appended {b : RecordBody} (h : queueOk s p) (hr : (s.queue p).length < 16)
    (hq : t.queue p = s.queue p ++ [{ seq := s.seqNo p, body := b }]) (hn : t.seqNo p = s.seqNo p + 1) : queueOk t p := by
  refine ⟨?_, ?_⟩
  · rw [hq, List.length_append]
    exact hr
  · rw [hq, hn]
    exact numbered_append b h.2

theorem queueOk_enqueue (b : RecordBody) (h : queueOk s x) (hr : x = p → (s.queue p).length < 16) :
    queueOk (enqueue p b s) x := by
  by_cases hx : x = p
  · subst hx
    exact queueOk_appended (b := b) h (hr rfl) (by simp) (by simp)
  · exact queueOk_congr h (by simp [hx]) (by simp [hx])

theorem queueOk_tail (h : queueOk s x) : queueOk (s.setQueue p (s.queue p).tail) x := by
  by_cases hx : x = p
  · subst hx
    obtain ⟨hlen, hnum⟩ := h
    refine ⟨?_, ?_⟩ <;> simp only [queue_setQueue, if_true, setQueue_seqNo]
    · exact (List.length_tail ▸ Nat.sub_le _ _ : (s.queue x).tail.length ≤ _).trans hlen
    · exact numbered_tail hnum
  · exact queueOk_congr h (by simp [hx]) rfl

/-- A queue of which a record has been removed has room. -/
theorem tail_length_lt (h : queueOk s p) : ((s.setQueue p (s.queue p).tail).queue p).length < 16 := by
  have := h.1
  simp only [Config.queueDepth] at this
  simp only [queue_setQueue, if_true, List.length_tail]
  omega

theorem queueOk_removeHead (h : ∀ x, queueOk s x) : queueOk (removeHead p s) x := by
  unfold removeHead
  cases hl : s.heldList p with
  | nil =>
    have hr : refill p (s.setQueue p (s.queue p).tail) = s.setQueue p (s.queue p).tail := by simp [refill, hl]
    rw [hr]
    exact queueOk_tail (h x)
  | cons u us =>
    obtain ⟨y, hy, hy'⟩ := refill_of_held (s := s.setQueue p (s.queue p).tail) (p := p) (u := u) (us := us) (by simpa using hl)
    rw [hy]
    refine queueOk_congr (s := y) ?_ (by simp) (by simp)
    rcases hy' with ⟨-, rfl⟩ | ⟨r, -, rfl⟩
    · exact queueOk_congr (queueOk_tail (p := p) (h x)) rfl rfl
    · exact queueOk_enqueue _ (queueOk_congr (queueOk_tail (p := p) (h x)) rfl rfl) fun _ => tail_length_lt (h p)

theorem queueOk_endOrder {u : UnitAddr} (n : Nat) (f : Context → Context) (h : queueOk s x) :
    queueOk (endOrder u n (s.modCtx u f)) x := by
  rcases endOrder_cases (s.modCtx u f) u n with ⟨-, hr, -⟩ | ⟨p, r, -, -, -, ⟨hroom, hq, hn, -, hq', hn', -⟩ | ⟨-, -, -, -, hq, hn, -⟩⟩
  · exact queueOk_congr h (congrArg (·.queues.get x) hr) (congrArg (·.seqs.get x) hr)
  · rcases eq_or_eq_peer p x with rfl | rfl
    · exact queueOk_appended h hroom.1 hq hn
    · exact queueOk_congr h hq' hn'
  · exact queueOk_congr h (congrArg (·.get x) hq) (congrArg (·.get x) hn)

theorem queueOk_adoptHeld {y : Port} {u : UnitAddr} (h : queueOk s x) : queueOk (adoptHeld y u s) x := by
  unfold adoptHeld
  dsimp only
  split
  · exact queueOk_congr h (by simp) (by simp)
  · split
    · exact queueOk_congr h (by simp) (by simp)
    · next hf =>
      have hroom := (queueFull_eq_false _ y).mp (Bool.eq_false_iff.mpr hf)
      exact queueOk_congr (queueOk_enqueue _ (queueOk_congr h (by simp) (by simp)) fun _ => hroom.1)
        (goIdle_queue _ _ _) (goIdle_seqNo _ _ _)

theorem queueOk_clearPort (h : queueOk s x) : queueOk (clearPort p s) x := by
  by_cases hx : x = p
  · subst hx
    have hq : (clearPort x s).queue x = [] := by rw [clearPort_queue, if_pos rfl]
    unfold queueOk
    rw [hq]
    exact ⟨Nat.zero_le _, numbered_nil⟩
  · exact queueOk_congr h (by rw [clearPort_queue, if_neg hx]) (by rw [clearPort_seqNo, if_neg hx])

variable {D : Scope}

theorem Quiet.keeps_queuesOk (h : Quiet D s t) (hs : ∀ x, queueOk s x) (x : Port) : queueOk t x := by
  cases h
  case place p b hr => exact queueOk_enqueue b (hs x) fun _ => hr.1
  case remove p _ => exact queueOk_removeHead hs
  case tag tg qs _ =>
    obtain ⟨-, hrcm, -⟩ := tagPages_rest s tg qs
    exact queueOk_congr (hs x) (congrArg (·.queues.get x) hrcm) (congrArg (·.seqs.get x) hrcm)
  case finishQueued u n f _ _ => exact queueOk_endOrder n f (hs x)
  case adoptHeld y u _ _ => exact queueOk_adoptHeld (hs x)
  case clearPort p => exact queueOk_clearPort (hs x)
  case current => exact queueOk_congr (hs x) (by simp [replaceSegment]) (by simp [replaceSegment])
  case start => exact queueOk_congr (hs x) (by simp [queueStart]) (by simp [queueStart])
  all_goals exact queueOk_congr (hs x) (by simp) (by simp)

theorem Act.keeps_queuesOk (h : Act D s t) (hs : ∀ x, queueOk s x) (x : Port) : queueOk t x := by
  cases h
  case quiet h => exact h.keeps_queuesOk hs x
  case finish u n f _ _ => exact queueOk_endOrder n f (hs x)
  case chain => exact queueOk_congr (hs x) (by simp [queueChained]) (by simp [queueChained])
  case selectHalt => exact queueOk_congr (hs x) rfl rfl
  case selectQueued => exact queueOk_congr (hs x) rfl rfl
  case reset cause =>
    have hq : (resetBlocks cause s).queue x = [] := by cases x <;> rfl
    unfold queueOk
    rw [hq]
    exact ⟨Nat.zero_le _, numbered_nil⟩
  all_goals exact queueOk_congr (hs x) (by simp) (by simp)

/-! ### The held lists and the deferred list -/

/-- A held list that is not empty means 16 records in its queue (R117). -/
def heldFull (s : State) (p : Port) : Prop := s.heldList p ≠ [] → (s.queue p).length = 16

theorem heldFull_congr (h : heldFull s p) (hl : t.heldList p ≠ [] → s.heldList p ≠ []) (hq : t.queue p = s.queue p) :
    heldFull t p := by
  unfold heldFull
  rw [hq]
  exact fun ht => h (hl ht)

theorem heldFull_of_nil (h : s.heldList p = []) : heldFull s p := fun hl => absurd h hl

/-- A queue that is full for a record holds 16. -/
theorem length_of_full (hq : queueOk s p) (h : heldFull s p) (hr : ¬ roomIn s p) : (s.queue p).length = 16 := by
  by_cases hl : s.heldList p = []
  · have hn : ¬ (s.queue p).length < 16 := fun hlt => hr ⟨hlt, hl⟩
    have hle := hq.1
    simp only [Config.queueDepth] at hle
    omega
  · exact h hl

theorem heldFull_removeHead (hc : s.contextsOk) (h : ∀ x, heldFull s x) : heldFull (removeHead p s) x := by
  unfold removeHead
  cases hl : s.heldList p with
  | nil =>
    have hr : refill p (s.setQueue p (s.queue p).tail) = s.setQueue p (s.queue p).tail := by simp [refill, hl]
    rw [hr]
    by_cases hx : x = p
    · subst hx; exact heldFull_of_nil (by simpa using hl)
    · exact heldFull_congr (h x) (by simp) (by simp [hx])
  | cons u us =>
    have hrec : (s.ctx u).heldRecord.isSome := by
      obtain ⟨⟨-, -, -, ⟨hr, -⟩, -⟩, -, -, -, h7⟩ := contextsOk_at hc u
      exact hr.mpr ((h7 p).mp (by simp [hl])).1
    have hfull : (s.queue p).length = 16 := h p (by simp [hl])
    obtain ⟨y, hy, hy'⟩ := refill_of_held (s := s.setQueue p (s.queue p).tail) (p := p) (u := u) (us := us) (by simpa using hl)
    rw [hy]
    rcases hy' with ⟨hn, rfl⟩ | ⟨r, -, rfl⟩
    · rw [setQueue_ctx] at hn
      simp [hn] at hrec
    · by_cases hx : x = p
      · subst hx
        intro _
        simp [hfull]
      · exact heldFull_congr (h x) (by simp [hx]) (by simp [hx])

theorem heldFull_endOrder {u : UnitAddr} (n : Nat) (f : Context → Context) (hq : queueOk s x) (h : heldFull s x) :
    heldFull (endOrder u n (s.modCtx u f)) x := by
  rcases endOrder_cases (s.modCtx u f) u n with
    ⟨-, hr, -⟩ | ⟨p, r, -, -, -, ⟨hroom, -, -, -, hq', -, hl, -⟩ | ⟨hroom, -, -, hl, hqs, -⟩⟩
  · have hl : (endOrder u n (s.modCtx u f)).heldList x = s.heldList x := congrArg (·.heldLists.get x) hr
    exact heldFull_congr h (by rw [hl]; exact id) (congrArg (·.queues.get x) hr)
  · have hl' : (endOrder u n (s.modCtx u f)).heldList x = s.heldList x := congrArg (·.get x) hl
    rcases eq_or_eq_peer p x with rfl | rfl
    · exact heldFull_of_nil (hl'.trans hroom.2)
    · exact heldFull_congr h (by rw [hl']; exact id) hq'
  · have hx : (endOrder u n (s.modCtx u f)).queue x = s.queue x := congrArg (·.get x) hqs
    by_cases hxp : x = p
    · subst hxp
      intro _
      rw [hx]
      exact length_of_full hq h hroom
    · exact heldFull_congr h (by rw [hl x, if_neg hxp]; exact id) hx

theorem ne_nil_of_without {u : UnitAddr} {l : List UnitAddr} (h : without u l ≠ []) : l ≠ [] := by
  rintro rfl
  exact h rfl

theorem heldFull_adoptHeld {y : Port} {u : UnitAddr} (hq : queueOk s x) (h : heldFull s x) :
    heldFull (adoptHeld y u s) x := by
  have hpeer : ∀ t, t.heldList y.peer = without u (s.heldList y.peer) → t.queue y.peer = s.queue y.peer →
      x = y.peer → heldFull t x := by
    rintro t ht htq rfl
    exact heldFull_congr h (by rw [ht]; exact ne_nil_of_without) htq
  unfold adoptHeld
  dsimp only
  split
  · rcases eq_or_eq_peer y x with rfl | hx
    · exact heldFull_congr h (by simp) (by simp)
    · exact hpeer _ (by simp) (by simp) hx
  · split
    · next hf =>
      rcases eq_or_eq_peer y x with rfl | hx
      · intro _
        have hr := (queueFull_eq_true _ x).mp hf
        simp only [roomIn, setHeldList_queue, modCtx_queue, heldList_setHeldList, ne_peer, if_false, modCtx_heldList] at hr
        simpa using length_of_full hq h hr
      · exact hpeer _ (by simp) (by simp) hx
    · next hf =>
      have hroom := (queueFull_eq_false _ y).mp (Bool.eq_false_iff.mpr hf)
      rcases eq_or_eq_peer y x with rfl | hx
      · exact heldFull_of_nil (by simpa using hroom.2)
      · exact hpeer _ (by simp) (by simp) hx

theorem heldFull_clearPort (h : heldFull s x) : heldFull (clearPort p s) x := by
  by_cases hx : x = p
  · exact heldFull_of_nil (by rw [clearPort_heldList, if_pos hx])
  · exact heldFull_congr h (by rw [clearPort_heldList, if_neg hx]; exact id) (by rw [clearPort_queue, if_neg hx])

theorem Quiet.keeps_heldFull (h : Quiet D s t) (hc : s.contextsOk) (hq : ∀ x, queueOk s x) (hs : ∀ x, heldFull s x)
    (x : Port) : heldFull t x := by
  cases h
  case place p b hr =>
    by_cases hx : x = p
    · subst hx; exact heldFull_of_nil (by simpa using hr.2)
    · exact heldFull_congr (hs x) (by simp) (by simp [hx])
  case remove p _ => exact heldFull_removeHead hc hs
  case tag tg qs _ =>
    obtain ⟨-, hrcm, -⟩ := tagPages_rest s tg qs
    have hl : (s.tagPages tg qs).heldList x = s.heldList x := congrArg (·.heldLists.get x) hrcm
    exact heldFull_congr (hs x) (by rw [hl]; exact id) (congrArg (·.queues.get x) hrcm)
  case finishQueued u n f _ _ => exact heldFull_endOrder n f (hq x) (hs x)
  case adoptHeld y u _ _ => exact heldFull_adoptHeld (hq x) (hs x)
  case clearPort p => exact heldFull_clearPort (hs x)
  case current => exact heldFull_congr (hs x) (by simp [replaceSegment]) (by simp [replaceSegment])
  case start => exact heldFull_congr (hs x) (by simp [queueStart]) (by simp [queueStart])
  all_goals exact heldFull_congr (hs x) (by simp) (by simp)

theorem Act.keeps_heldFull (h : Act D s t) (hc : s.contextsOk) (hq : ∀ x, queueOk s x) (hs : ∀ x, heldFull s x)
    (x : Port) : heldFull t x := by
  cases h
  case quiet h => exact h.keeps_heldFull hc hq hs x
  case finish u n f _ _ => exact heldFull_endOrder n f (hq x) (hs x)
  case chain => exact heldFull_congr (hs x) (by simp [queueChained]) (by simp [queueChained])
  case selectHalt => exact heldFull_congr (hs x) id rfl
  case selectQueued => exact heldFull_congr (hs x) id rfl
  case reset cause => exact heldFull_of_nil (resetBlocks_heldList cause s x)
  all_goals exact heldFull_congr (hs x) (by simp) (by simp)

theorem Quiet.keeps_deferred (h : Quiet D s t) (hs : s.rcm.deferred.Nodup) : t.rcm.deferred.Nodup := by
  cases h
  case defer l hl => exact hl hs
  case clearPort p => rwa [clearPort_deferred]
  case adoptHeld y u _ _ => rwa [adoptHeld_deferred]
  case tag tg qs _ => rwa [(tagPages_rest s tg qs).2.1]
  case current => simpa [replaceSegment] using hs
  case start => simpa [queueStart] using hs
  all_goals simpa using hs

theorem Act.keeps_deferred (h : Act D s t) (hs : s.rcm.deferred.Nodup) : t.rcm.deferred.Nodup := by
  cases h
  case quiet h => exact h.keeps_deferred hs
  case chain => simpa [queueChained] using hs
  case selectHalt => exact hs
  case selectQueued => exact hs
  case reset => exact List.nodup_nil
  all_goals simpa using hs

/-- The contexts, the queues and the lists of contexts together, as the lists need the two others. -/
def recordsOk (s : State) : Prop := s.contextsOk ∧ (∀ x, queueOk s x) ∧ s.rcm.deferred.Nodup ∧ ∀ x, heldFull s x

theorem Act.keeps_recordsOk (h : Act D s t) (hs : recordsOk s) : recordsOk t := by
  obtain ⟨hc, hq, hd, hf⟩ := hs
  exact ⟨h.keeps_contextsOk hc, h.keeps_queuesOk hq, h.keeps_deferred hd, h.keeps_heldFull hc hq hf⟩

/-- Settles O55: a record is placed only where there is room, and one is held only where there is none. -/
theorem everyStepKeepsTheQueuesNumbered : Obligations.EveryStepKeepsTheQueuesNumbered := by
  refine ⟨fun s t hs hstep => ?_, fun s t hc hq hl hstep => ?_⟩
  · exact step_keeps (D := .moving) (P := fun s => ∀ x, queueOk s x) hstep (fun _ => False.elim) trivial (fun _ => hs)
      fun _ _ h => h.keeps_queuesOk
  · have h := step_keeps (D := .moving) (P := recordsOk) hstep (fun _ => False.elim) trivial (fun _ => ⟨hc, hq, hl⟩)
      fun _ _ h => h.keeps_recordsOk
    exact ⟨h.2.2.1, h.2.2.2⟩

end

end Sys2Proof.StepActs
end

section
/-! PROOFS. Every act keeps the pages' use counts: a page gains or loses a use exactly when a segment begins or ceases in it. -/

namespace Sys2Proof.UseCounts

open Sys2Proof.Machine Sys2Proof.Laws Sys2Proof.StepActs Sys2Proof.PortClear

/-! ### Counting the users of a page -/

/-- Whether a context uses a page, as a number. -/
def use (c : Context) (q : PageNo) : Nat := if c.segIn q then 1 else 0

section
variable {s t : State} {u : UnitAddr} {q : PageNo}

/-- A list without repetition counts one more where a test changes to true at one of its elements. -/
theorem filter_length_update (a b : UnitAddr → Bool) (u : UnitAddr) (hab : ∀ v, v ≠ u → a v = b v) :
    ∀ l : List UnitAddr, l.Nodup → u ∈ l →
      (l.filter a).length + (b u).toNat = (l.filter b).length + (a u).toNat
  | [], _, h => by simp at h
  | v :: l, hl, h => by
    obtain ⟨hv, hl⟩ := List.nodup_cons.mp hl
    by_cases hvu : v = u
    · subst hvu
      have hrest : l.filter a = l.filter b := List.filter_congr fun w hw => hab w (ne_of_mem_of_not_mem hw hv)
      cases ha : a v <;> cases hb : b v <;> simp [ha, hb, hrest]
    · have ih := filter_length_update a b u hab l hl (List.mem_of_ne_of_mem (Ne.symm hvu) h)
      rw [List.filter_cons, List.filter_cons, hab v hvu]
      split
      · simp only [List.length_cons]; omega
      · exact ih

theorem use_eq (c : Context) (q : PageNo) : use c q = (c.segIn q).toNat := by
  cases h : c.segIn q <;> simp [use, h]

/-- Where one context changes, a page's users change by its use. -/
theorem users_update (other : ∀ v, v ≠ u → t.ctx v = s.ctx v) :
    (t.usersOf q).length + use (s.ctx u) q = (s.usersOf q).length + use (t.ctx u) q := by
  rw [use_eq, use_eq]
  exact filter_length_update (fun v => (t.ctx v).segIn q) (fun v => (s.ctx v).segIn q) u
    (fun v hv => by rw [other v hv]) allUnits allUnits_nodup (mem_allUnits u)

/-! ### Changes that keep the counts -/

/-- The counts are kept where one context changes and each page's count follows its use. -/
theorem useCountsOk_of_update (hs : s.useCountsOk) (other : ∀ v, v ≠ u → t.ctx v = s.ctx v)
    (uses : ∀ q, (t.page q).uses = (s.page q).uses + use (t.ctx u) q - use (s.ctx u) q)
    (free : ∀ q, (t.page q).tag = .free → (s.page q).tag = .free ∧ use (t.ctx u) q = 0) : t.useCountsOk := by
  intro q
  obtain ⟨hu, hf⟩ := hs q
  have h := users_update (q := q) other
  refine ⟨?_, fun ht => ?_⟩
  · rw [uses, hu]; omega
  · obtain ⟨hfree, h0⟩ := free q ht
    rw [uses, hf hfree, h0]
    omega

/-- The counts are kept where no segment and no page changes. -/
theorem useCountsOk_congr (hs : s.useCountsOk) (seg : ∀ v, (t.ctx v).seg.map Segment.page = (s.ctx v).seg.map Segment.page)
    (page : ∀ q, t.page q = s.page q) : t.useCountsOk := by
  have hin : ∀ v q, (t.ctx v).segIn q = (s.ctx v).segIn q := by
    intro v q
    have h := seg v
    unfold Context.segIn
    cases hg : (t.ctx v).seg <;> cases hg' : (s.ctx v).seg <;> simp_all
  intro q
  have husers : t.usersOf q = s.usersOf q := List.filter_congr fun v _ => hin v q
  rw [page, husers]
  exact hs q

/-- The counts are kept where the segment of one context ceases with its page's use. -/
theorem useCountsOk_ceased (hs : s.useCountsOk) (other : ∀ v, v ≠ u → t.ctx v = s.ctx v) (seg : (t.ctx u).seg = none)
    (page : ∀ q, t.page q = { s.page q with uses := (s.page q).uses - if (s.ctx u).segIn q then 1 else 0 }) :
    t.useCountsOk := by
  have h0 : ∀ q, use (t.ctx u) q = 0 := fun q => by simp [use, Context.segIn, seg]
  refine useCountsOk_of_update hs other (fun q => ?_) fun q hq => ?_
  · rw [page, h0]; rfl
  · rw [page] at hq; exact ⟨hq, h0 q⟩

/-! ### The acts -/

theorem useCountsOk_goIdle (hs : s.useCountsOk) : (goIdle u s).useCountsOk :=
  useCountsOk_ceased hs (fun v hv => by simp [hv]) (by simp) (goIdle_page s u)

theorem useCountsOk_endOrder (n : Nat) (f : Context → Context) (hf : ∀ c, (f c).seg = c.seg) (hs : s.useCountsOk) :
    (endOrder u n (s.modCtx u f)).useCountsOk := by
  obtain ⟨f1, -, -, -, -, f6, -⟩ := endOrder_frame (s.modCtx u f) u n
  have hseg : ((endOrder u n (s.modCtx u f)).ctx u).seg = none := by
    rcases endOrder_cases (s.modCtx u f) u n with ⟨h, -⟩ | ⟨p, r, -, -, -, ⟨-, -, -, h, -⟩ | ⟨-, -, h, -⟩⟩ <;> rw [h]
  refine useCountsOk_ceased hs (fun v hv => by rw [f1 v hv, ctx_modCtx, if_neg hv]) hseg fun q => ?_
  have hin : ((s.modCtx u f).ctx u).segIn q = (s.ctx u).segIn q := by
    rw [ctx_modCtx, if_pos rfl, Context.segIn, hf]; rfl
  rw [f6, hin]
  rfl

theorem useCountsOk_enqueue (p : Port) (b : RecordBody) (hs : s.useCountsOk) : (enqueue p b s).useCountsOk := hs

theorem useCountsOk_setHeldList (p : Port) (l : List UnitAddr) (hs : s.useCountsOk) : (s.setHeldList p l).useCountsOk := hs

theorem useCountsOk_modCtx {f : Context → Context} (hs : s.useCountsOk)
    (h : (f (s.ctx u)).seg.map Segment.page = (s.ctx u).seg.map Segment.page) : (s.modCtx u f).useCountsOk := by
  refine useCountsOk_congr hs (fun v => ?_) fun _ => rfl
  by_cases hv : v = u
  · subst hv; simpa using h
  · simp [hv]

theorem useCountsOk_removeHead (p : Port) (hs : s.useCountsOk) : (removeHead p s).useCountsOk := by
  unfold removeHead refill
  split
  · exact hs
  · dsimp only
    split
    · exact useCountsOk_goIdle (s := State.setHeldList _ p _) hs
    · exact useCountsOk_goIdle (s := enqueue p _ _) hs

theorem useCountsOk_adoptHeld (y : Port) (hs : s.useCountsOk) : (adoptHeld y u s).useCountsOk := by
  unfold adoptHeld
  dsimp only
  generalize h1 : State.setHeldList _ y.peer _ = s1
  have hs1 : s1.useCountsOk := by
    rw [← h1]
    exact useCountsOk_setHeldList _ _ (useCountsOk_modCtx hs rfl)
  split
  · exact useCountsOk_goIdle hs1
  · split
    · exact useCountsOk_setHeldList _ _ (useCountsOk_modCtx hs1 rfl)
    · exact useCountsOk_goIdle (useCountsOk_enqueue _ _ hs1)

theorem useCountsOk_portResetContext (hs : s.useCountsOk) : (portResetContext u s).useCountsOk := by
  rcases state_cases (s.ctx u) with h | h | h | h
  · rwa [portResetContext_of_idle h]
  · rw [portResetContext_of_queued h]
    refine useCountsOk_goIdle (useCountsOk_congr hs (fun v => ?_) fun q => by simp)
    by_cases hv : v = u <;> simp [hv]
  · rw [portResetContext_of_held h]
    exact useCountsOk_goIdle hs
  · rw [portResetContext_of_onLink h]
    refine useCountsOk_congr hs (fun v => ?_) fun q => by simp [dropped]
    rw [dropped_ctx]
    by_cases hv : v = u <;> simp [hv, halted]

theorem useCountsOk_clearAll : ∀ (l : List UnitAddr) {s : State}, s.useCountsOk → (clearAll l s).useCountsOk
  | [], _, hs => hs
  | _ :: l, _, hs => useCountsOk_clearAll l (useCountsOk_portResetContext hs)

theorem useCountsOk_clearPort (p : Port) (hs : s.useCountsOk) : (clearPort p s).useCountsOk :=
  useCountsOk_clearAll (s.ownedBy p) hs

theorem not_free_of_pageOpen {p : Port} (h : s.pageOpen p q = true) : (s.page q).tag ≠ .free := by
  unfold State.pageOpen at h
  intro hf
  cases p <;> simp [hf, Tag.ofPort] at h

theorem lowerSeg_page (g : Option Segment) (q : PageNo) : (s.lowerSeg g).page q =
    { s.page q with uses := (s.page q).uses - if g.map Segment.page = some q then 1 else 0 } := by
  cases g with
  | none => simp [State.lowerSeg]
  | some g =>
    by_cases hq : q = g.page
    · subst hq; simp [State.lowerSeg, State.lowerPage]
    · simp [State.lowerSeg, State.lowerPage, hq, Ne.symm hq]

theorem segIn_iff (c : Context) (q : PageNo) : c.segIn q = true ↔ c.seg.map Segment.page = some q := by
  unfold Context.segIn
  cases c.seg <;> simp

/-- A segment that replaces another takes the use of its page before the old one is let go (R31, R32). -/
theorem useCountsOk_replaceSegment {p : Port} {a : Word} (n : Nat) (hs : s.useCountsOk)
    (ho : s.pageOpen p (pageOf a) = true) : (replaceSegment u a n s).useCountsOk := by
  have hpage : ∀ q, (replaceSegment u a n s).page q = { s.page q with
      uses := (s.page q).uses + (if q = pageOf a then 1 else 0) - use (s.ctx u) q } := by
    intro q
    simp only [replaceSegment, modCtx_page, lowerSeg_page, State.raisePage, page_modPage, use, segIn_iff]
    split <;> simp_all
  have huse : ∀ q, use ((replaceSegment u a n s).ctx u) q = if q = pageOf a then 1 else 0 := by
    intro q
    rw [use, replaceSegment_ctx, if_pos rfl]
    simp only [segIn_iff, Option.map_some, Option.some.injEq]
    exact if_congr eq_comm rfl rfl
  refine useCountsOk_of_update hs (u := u) (fun v hv => by simp [hv]) (fun q => by rw [hpage, huse]) fun q hq => ?_
  rw [hpage] at hq
  refine ⟨hq, ?_⟩
  rw [huse, if_neg]
  rintro rfl
  exact not_free_of_pageOpen ho hq

theorem useCountsOk_tagPages {tg : Tag} {qs : List PageNo} (hs : s.useCountsOk)
    (h : tg = .free → ∀ q ∈ qs, (s.page q).uses = 0) : (s.tagPages tg qs).useCountsOk := by
  have hctx : ∀ v, (s.tagPages tg qs).ctx v = s.ctx v := fun v => by
    rw [State.ctx, (tagPages_rest s tg qs).2.2.1]; rfl
  intro q
  have husers : (s.tagPages tg qs).usersOf q = s.usersOf q := List.filter_congr fun v _ => by rw [hctx]
  rw [tagPages_page, husers]
  obtain ⟨hu, hf⟩ := hs q
  split
  · next hq => exact ⟨hu, fun ht => h ht q hq⟩
  · exact ⟨hu, hf⟩

variable {D : Scope}

theorem Quiet.keeps_useCountsOk (h : Quiet D s t) (hs : s.useCountsOk) : t.useCountsOk := by
  cases h
  case remove p _ => exact useCountsOk_removeHead p hs
  case tag tg qs h => exact useCountsOk_tagPages hs h
  case write a bs => exact useCountsOk_congr hs (fun v => by simp) fun q => by simp
  case ctx u f h _ => exact useCountsOk_modCtx hs h.page
  case current u p a n _ ho _ _ => exact useCountsOk_replaceSegment n hs ho
  case start p u d a jumps _ _ _ =>
    refine useCountsOk_ceased hs (u := u) (fun v hv => by simp [queueStart, hv]) (by simp [queueStart]) fun q => ?_
    simp only [queueStart, modSelectQ_page, modCtx_page, ceaseSegment_page]
  case halt u cause _ =>
    refine useCountsOk_congr hs (fun v => ?_) fun q => by simp
    rw [haltOnLink_ctx]
    by_cases hv : v = u <;> simp [hv, halted]
  case finishQueued u n f _ hf => exact useCountsOk_endOrder n f hf hs
  case adoptHeld y u _ _ => exact useCountsOk_adoptHeld y hs
  case clearPort p => exact useCountsOk_clearPort p hs
  all_goals exact hs

theorem useCountsOk_reset (cause : ResetCause) (s : State) : (resetBlocks cause s).useCountsOk := by
  intro q
  have hpage : (resetBlocks cause s).page q = { tag := .free, uses := 0 } := by simp [resetBlocks, State.page, pagesReset]
  have husers : (resetBlocks cause s).usersOf q = [] :=
    List.filter_eq_nil_iff.mpr fun v _ => by rw [resetBlocks_ctx]; simp [Context.segIn]
  rw [hpage, husers]
  exact ⟨rfl, fun _ => rfl⟩

theorem Act.keeps_useCountsOk (h : Act D s t) (hs : s.useCountsOk) : t.useCountsOk := by
  cases h
  case quiet h => exact Quiet.keeps_useCountsOk h hs
  case ctx u f h => exact useCountsOk_modCtx hs h.page
  case finish u n f _ hf => exact useCountsOk_endOrder n f hf hs
  case chain u d a _ _ _ =>
    refine useCountsOk_ceased hs (u := u) (fun v hv => by simp [queueChained, hv]) (by simp [queueChained]) fun q => ?_
    simp only [queueChained, modSelectQ_page, modCtx_page, ceaseSegment_page]
  case selectHalt u rest _ =>
    refine useCountsOk_congr hs (fun v => ?_) fun _ => rfl
    by_cases hv : v = u <;> simp [enterSelecting, hv]
  case selectQueued u rest _ =>
    refine useCountsOk_congr hs (fun v => ?_) fun _ => rfl
    by_cases hv : v = u <;> simp [enterSelecting, hv]
  case disconnect u _ =>
    refine useCountsOk_congr hs (fun v => ?_) fun q => by simp
    rw [enterDisconnected_ctx]
    by_cases hv : v = u <;> simp [hv]
  case connect u _ =>
    refine useCountsOk_congr hs (fun v => ?_) fun _ => rfl
    by_cases hv : v = u <;> simp [connect, hv]
  case reset cause => exact useCountsOk_reset cause s
  all_goals exact hs

/-- Settles O54: a page gains a use with the segment that begins in it and loses it with the segment that ceases. -/
theorem everyStepKeepsTheUseCounts : Obligations.EveryStepKeepsTheUseCounts := fun _ _ hs hstep =>
  step_keeps (D := .moving) hstep (fun _ => False.elim) trivial (fun _ => hs) fun _ _ h => Act.keeps_useCountsOk h

end

end Sys2Proof.UseCounts
end

section
/-! PROOFS. No data move leaves the page of its segment: every act keeps each context within its pages, and the frame in flight
is one its segment can give. -/

namespace Sys2Proof.Segments

open Sys2Proof.Machine Sys2Proof.Laws Sys2Proof.StepActs Sys2Proof.PortClear Sys2Proof.UseCounts

/-! ### The contexts -/

section
variable {D : Scope} {s t : State} {u : UnitAddr}

theorem inPage_congr {c c' : Context} (h : inPage c) (seg : c'.seg = none ∨ c'.seg = c.seg)
    (desc : c'.desc = none ∨ c'.desc = c.desc) (lookahead : c'.lookahead = .absent ∨ c'.lookahead = c.lookahead) :
    inPage c' := by
  obtain ⟨h1, h2, h3⟩ := h
  refine ⟨?_, ?_, ?_⟩
  · rcases seg with h | h <;> rw [h]
    · exact nofun
    · exact h1
  · rcases desc with h | h <;> rw [h]
    · exact nofun
    · exact h2
  · rcases lookahead with h | h <;> rw [h]
    · exact nofun
    · exact h3

theorem inPage_idle : inPage {} := ⟨nofun, nofun, nofun⟩

theorem fits_of_area {a : Word} {n : Nat} (h : area a n) :
    Segment.fits { addr := a, remaining := n, page := pageOf a } := by
  obtain ⟨h1, h2⟩ := h
  simp only [Segment.fits, pageOf]
  omega

/-- What becomes of the other contexts and of the one whose order ends. -/
theorem endOrder_ctx_cases (s : State) (u : UnitAddr) (n : Nat) (v : UnitAddr) : v ≠ u ∧ (endOrder u n s).ctx v = s.ctx v ∨
    ((endOrder u n s).ctx v).seg = none ∧ ((endOrder u n s).ctx v).desc = none ∧
      ((endOrder u n s).ctx v).lookahead = .absent := by
  by_cases hv : v = u
  · subst hv
    refine .inr ?_
    rcases endOrder_cases s v n with ⟨h, -⟩ | ⟨p, r, -, -, -, ⟨-, -, -, h, -⟩ | ⟨-, -, h, -⟩⟩ <;> rw [h] <;>
      exact ⟨rfl, rfl, rfl⟩
  · exact .inl ⟨hv, endOrder_ctx_of_ne n hv⟩

theorem removeHead_ctx_cases (s : State) (p : Port) (v : UnitAddr) :
    (removeHead p s).ctx v = {} ∨ (removeHead p s).ctx v = s.ctx v := by
  unfold removeHead
  cases hl : s.heldList p with
  | nil => exact .inr (by simp [refill, hl])
  | cons u us =>
    obtain ⟨x, hx, hx'⟩ := refill_of_held (s := s.setQueue p (s.queue p).tail) (p := p) (u := u) (us := us) (by simpa using hl)
    have hctx : x.ctx v = s.ctx v := by rcases hx' with ⟨-, rfl⟩ | ⟨r, -, rfl⟩ <;> simp
    rw [hx, goIdle_ctx, hctx]
    split
    · exact .inl rfl
    · exact .inr rfl

theorem adoptHeld_ctx_cases (s : State) (y : Port) (u v : UnitAddr) : (adoptHeld y u s).ctx v = {} ∨
    (adoptHeld y u s).ctx v = { s.ctx v with
      owner := ((adoptHeld y u s).ctx v).owner, adopted := ((adoptHeld y u s).ctx v).adopted,
      heldRecord := ((adoptHeld y u s).ctx v).heldRecord } := by
  unfold adoptHeld
  dsimp only
  (repeat' split) <;> by_cases hv : v = u <;> simp [hv]

/-- An act that is no data move leaves each context's segment, or takes it away. -/
theorem Quiet.seg_cases (h : Quiet D s t) (hm : ¬ D.moves) (v : UnitAddr) :
    (t.ctx v).seg = none ∨ (t.ctx v).seg = (s.ctx v).seg := by
  cases h
  case remove p _ => exact (removeHead_ctx_cases s p v).imp (fun h => by rw [h]) fun h => by rw [h]
  case tag tg qs _ => exact .inr (by rw [State.ctx, (tagPages_rest s tg qs).2.2.1]; rfl)
  case write a bs => exact .inr (by simp)
  case ctx u f h _ =>
    refine .inr ?_
    by_cases hv : v = u
    · subst hv; simpa using h.seg hm
    · simp [hv]
  case current => exact absurd ‹D.moves› hm
  case start p u d a jumps _ _ _ =>
    by_cases hv : v = u
    · subst hv; exact .inl (by simp [queueStart])
    · exact .inr (by simp [queueStart, hv])
  case halt u cause _ =>
    refine .inr ?_
    rw [haltOnLink_ctx]
    by_cases hv : v = u <;> simp [hv, halted]
  case finishQueued u n f _ _ =>
    rcases endOrder_ctx_cases (s.modCtx u f) u n v with ⟨hv, h⟩ | ⟨h, -⟩
    · exact .inr (by rw [h]; simp [hv])
    · exact .inl h
  case adoptHeld y u _ _ => exact (adoptHeld_ctx_cases s y u v).imp (fun h => by rw [h]) fun h => by rw [h]
  case clearPort p =>
    rw [clearPort_ctx]
    split
    · rcases state_cases (s.ctx v) with h | h | h | h
      · exact .inr (by rw [cleared_of_idle h])
      · exact .inl (by rw [cleared_of_dropped (.inl h)])
      · exact .inl (by rw [cleared_of_dropped (.inr h)])
      · exact .inr (by rw [cleared_of_onLink h]; rfl)
    · exact .inr rfl
  all_goals exact .inr rfl

theorem Act.seg_cases (h : Act D s t) (hm : ¬ D.moves) (v : UnitAddr) :
    (t.ctx v).seg = none ∨ (t.ctx v).seg = (s.ctx v).seg := by
  cases h
  case quiet h => exact Quiet.seg_cases h hm v
  case ctx u f h =>
    refine .inr ?_
    by_cases hv : v = u
    · subst hv; simpa using h.seg hm
    · simp [hv]
  case finish u n f _ _ =>
    rcases endOrder_ctx_cases (s.modCtx u f) u n v with ⟨hv, h⟩ | ⟨h, -⟩
    · exact .inr (by rw [h]; simp [hv])
    · exact .inl h
  case chain u d a _ _ _ =>
    by_cases hv : v = u
    · subst hv; exact .inl (by simp [queueChained])
    · exact .inr (by simp [queueChained, hv])
  case selectHalt u rest _ => by_cases hv : v = u <;> simp [enterSelecting, hv]
  case selectQueued u rest _ => by_cases hv : v = u <;> simp [enterSelecting, hv]
  case disconnect u _ =>
    rw [enterDisconnected_ctx]
    by_cases hv : v = u <;> simp [hv]
  case connect u _ => by_cases hv : v = u <;> simp [connect, hv]
  case reset cause => exact .inl (by rw [resetBlocks_ctx])
  all_goals exact .inr rfl

theorem Acts.seg_cases (h : Acts D s t) (hm : ¬ D.moves) (v : UnitAddr) :
    (t.ctx v).seg = none ∨ (t.ctx v).seg = (s.ctx v).seg := by
  induction h with
  | refl => exact .inr rfl
  | tail _ hxy ih =>
    rcases Act.seg_cases hxy hm v with h | h
    · exact .inl h
    · rwa [h]

/-- Every act keeps each context within its pages. -/
theorem Quiet.keeps_inPage (h : Quiet D s t) (hd : D.dat) (hs : ∀ v, inPage (s.ctx v)) (v : UnitAddr) :
    inPage (t.ctx v) := by
  cases h
  case remove p _ =>
    rcases removeHead_ctx_cases s p v with h | h <;> rw [h]
    · exact inPage_idle
    · exact hs v
  case tag tg qs _ => rw [State.ctx, (tagPages_rest s tg qs).2.2.1]; exact hs v
  case write a bs => rw [writeBytes_ctx]; exact hs v
  case ctx u f h _ =>
    by_cases hv : v = u
    · subst hv; rw [ctx_modCtx, if_pos rfl]; exact h.fits hd (hs v)
    · rw [ctx_modCtx, if_neg hv]; exact hs v
  case current u p a n _ _ ha _ =>
    rw [replaceSegment_ctx]
    split
    · obtain ⟨-, h2, h3⟩ := hs u
      refine ⟨?_, h2, h3⟩
      rintro g ⟨⟩
      exact fits_of_area (ha (hs u))
    · exact hs v
  case start p u d a jumps _ _ hfit =>
    by_cases hv : v = u
    · subst hv
      have hself : (queueStart p v d a jumps s).ctx v =
          { state := .queued, owner := some p, desc := some d, descAddr := some a, jumps := jumps } := by simp [queueStart]
      rw [hself]
      refine ⟨nofun, ?_, nofun⟩
      rintro d' ⟨⟩
      exact hfit
    · rw [show (queueStart p u d a jumps s).ctx v = s.ctx v by simp [queueStart, hv]]
      exact hs v
  case halt u cause _ =>
    rw [haltOnLink_ctx]
    split
    · exact inPage_congr (hs u) (.inr rfl) (.inr rfl) (.inr rfl)
    · exact hs v
  case finishQueued u n f _ _ =>
    rcases endOrder_ctx_cases (s.modCtx u f) u n v with ⟨hv, h⟩ | ⟨h1, h2, h3⟩
    · rw [h, ctx_modCtx, if_neg hv]; exact hs v
    · exact inPage_congr inPage_idle (.inl h1) (.inl h2) (.inl h3)
  case adoptHeld y u _ _ =>
    rcases adoptHeld_ctx_cases s y u v with h | h <;> rw [h]
    · exact inPage_idle
    · exact inPage_congr (hs v) (.inr rfl) (.inr rfl) (.inr rfl)
  case clearPort p =>
    rw [clearPort_ctx]
    split
    · rcases state_cases (s.ctx v) with h | h | h | h
      · rw [cleared_of_idle h]; exact hs v
      · rw [cleared_of_dropped (.inl h)]; exact inPage_idle
      · rw [cleared_of_dropped (.inr h)]; exact inPage_idle
      · rw [cleared_of_onLink h]; exact inPage_congr (hs v) (.inr rfl) (.inr rfl) (.inr rfl)
    · exact hs v
  all_goals exact hs v

/-- A context that only changes how it stands with the link, its queues or its halt request. -/
theorem inPage_of_standing {c : Context} (h : inPage c) (x : CtxState) (tm : Timer) (q : Bool) :
    inPage { c with state := x, silence := tm, stopQueued := q } :=
  inPage_congr h (.inr rfl) (.inr rfl) (.inr rfl)

theorem Act.keeps_inPage (h : Act D s t) (hd : D.dat) (hs : ∀ v, inPage (s.ctx v)) (v : UnitAddr) : inPage (t.ctx v) := by
  cases h
  case quiet h => exact Quiet.keeps_inPage h hd hs v
  case ctx u f h =>
    by_cases hv : v = u
    · subst hv; rw [ctx_modCtx, if_pos rfl]; exact h.fits hd (hs v)
    · rw [ctx_modCtx, if_neg hv]; exact hs v
  case finish u n f _ _ =>
    rcases endOrder_ctx_cases (s.modCtx u f) u n v with ⟨hv, h⟩ | ⟨h1, h2, h3⟩
    · rw [h, ctx_modCtx, if_neg hv]; exact hs v
    · exact inPage_congr inPage_idle (.inl h1) (.inl h2) (.inl h3)
  case chain u d a _ _ hfit =>
    by_cases hv : v = u
    · subst hv
      have hself : (queueChained v d a s).ctx v = { s.ctx v with
          state := .queued, desc := some d, descAddr := some a, seg := none, lookahead := .absent, unitStatus := none,
          silence := .stopped } := by simp [queueChained]
      rw [hself]
      refine ⟨nofun, ?_, nofun⟩
      rintro d' ⟨⟩
      exact hfit
    · rw [show (queueChained u d a s).ctx v = s.ctx v by simp [queueChained, hv]]
      exact hs v
  case selectHalt u rest _ =>
    by_cases hv : v = u
    · subst hv; rw [enterSelecting_self]; exact inPage_of_standing (hs v) _ _ _
    · rw [enterSelecting, ctx_modCtx, if_neg hv]; exact hs v
  case selectQueued u rest _ =>
    by_cases hv : v = u
    · subst hv; rw [enterSelecting_self]; exact inPage_of_standing (hs v) _ _ _
    · rw [enterSelecting, ctx_modCtx, if_neg hv]; exact hs v
  case disconnect u _ =>
    rw [enterDisconnected_ctx]
    split
    · exact inPage_of_standing (hs u) _ _ _
    · exact hs v
  case connect u _ =>
    rw [connect, ctx_modCtx]
    split
    · exact inPage_of_standing (hs u) _ _ _
    · exact hs v
  case reset cause => rw [resetBlocks_ctx]; exact inPage_idle
  all_goals exact hs v

end

end Sys2Proof.Segments
end

section
/-! PROOFS. The frame in flight is one its segment can give, and no frame to follow it or to send again is a DAT. -/

namespace Sys2Proof.Segments

open Sys2Proof.Machine Sys2Proof.Laws Sys2Proof.StepActs

/-! ### What a chain of quiet acts leaves alone -/

section
variable {D : Scope} {s t : State}

theorem Quiet.lnk_eq (h : Quiet D s t) : t.lnk = s.lnk := by
  cases h
  case tag tg qs _ => exact (tagPages_rest s tg qs).2.2.2.2.1
  case adoptHeld y u _ _ => exact adoptHeld_lnk s y u
  case clearPort p => exact clearPort_lnk s p
  case current => simp [replaceSegment]
  case start => simp [queueStart]
  all_goals simp

theorem Quiets.lnk_eq (h : Quiets D s t) : t.lnk = s.lnk := by
  induction h with
  | refl => rfl
  | tail _ hxy ih => exact (Quiet.lnk_eq hxy).trans ih

theorem serveReq_lnk (u : UnitAddr) (body : ReqBody) (s : State) : (serveReq u body s).1.lnk = s.lnk := by
  unfold serveReq
  split
  · rfl
  · next hn =>
    have hs : (s.ctx u).state = .connected := not_not.mp hn
    have hse : ((ensureSegment u s).ctx u).state = .connected := by simpa using hs
    split
    · split
      · exact (Quiets.lnk_eq (takeInData_quiets hse (D := .moving) trivial _)).trans (ensureSegment_lnk s u)
      · exact ensureSegment_lnk s u
    · split
      · exact (Quiets.lnk_eq (takeOutData_quiets hse (D := .moving) trivial)).trans (ensureSegment_lnk s u)
      · exact ensureSegment_lnk s u
    · exact takeEnding_lnk s u _ _
    · rfl

end

/-! ### Frames that are no DATs -/

/-- A frame that calls for no reply, or one that is no DAT, needs nothing of a segment. -/
def exFits (s : State) (e : Exchange) : Prop :=
  (∀ u ∈ e.unit, ∀ g ∈ (s.ctx u).seg, e.datLength ≤ g.remaining) ∧ ∀ f ∈ e.more, f.callsForReply = false

/-- An answer that can be kept: no DAT. -/
def silentAnswer (x : Option Answer) : Prop := ∀ y ∈ x, y.frame.callsForReply = false

/-- The answer memory holds no DAT (R83). -/
def answersOk (s : State) : Prop := ∀ u, silentAnswer (s.answer u)

/-- The frame in flight fits its segment, and no frame to follow or to send again is a DAT. -/
def lnkFits (s : State) : Prop := (∀ e ∈ s.lnk.exchange, exFits s e) ∧ answersOk s

theorem segmentsOk_iff (s : State) : s.segmentsOk ↔ (∀ u, inPage (s.ctx u)) ∧ lnkFits s := by
  constructor
  · rintro ⟨h1, h2, h3, h4, h5, h6⟩
    exact ⟨fun u => ⟨h1 u, h2 u, h3 u⟩, fun e he => ⟨h4 e he, h5 e he⟩, h6⟩
  · rintro ⟨h, hl, ha⟩
    exact ⟨fun u => (h u).1, fun u => (h u).2.1, fun u => (h u).2.2, fun e he => (hl e he).1, fun e he => (hl e he).2, ha⟩

section
variable {s t : State} {e : Exchange}

theorem datLength_of_silent (h : e.frame.callsForReply = false) : e.datLength = 0 := by
  unfold Exchange.datLength
  split
  · next hf => simp [hf, CtlFrame.callsForReply] at h
  · rfl

theorem exFits_of_no_dat (h : e.datLength = 0) (hm : ∀ f ∈ e.more, f.callsForReply = false) : exFits s e :=
  ⟨fun _ _ _ _ => h ▸ Nat.zero_le _, hm⟩

theorem exFits_of_silent (h : e.frame.callsForReply = false) (hm : ∀ f ∈ e.more, f.callsForReply = false) : exFits s e :=
  exFits_of_no_dat (datLength_of_silent h) hm

/-- An exchange of the same frame fits when each segment is as it was or has ceased. -/
theorem exFits_congr {e' : Exchange} (h : exFits s e) (unit : e'.unit = e.unit) (frame : e'.frame = e.frame)
    (more : e'.more = e.more) (seg : ∀ v, (t.ctx v).seg = none ∨ (t.ctx v).seg = (s.ctx v).seg) : exFits t e' := by
  obtain ⟨h1, h2⟩ := h
  refine ⟨fun u hu g hg => ?_, by rw [more]; exact h2⟩
  rw [unit] at hu
  rw [show e'.datLength = e.datLength by unfold Exchange.datLength; rw [frame]]
  rcases seg u with hn | hs
  · rw [hn] at hg; cases hg
  · exact h1 u hu g (hs ▸ hg)

theorem answersOk_congr (h : answersOk s) (hl : t.lnk = s.lnk) : answersOk t := fun u => by
  unfold State.answer
  rw [hl]
  exact h u

theorem lnkFits_congr (h : lnkFits s) (hl : t.lnk = s.lnk)
    (seg : ∀ v, (t.ctx v).seg = none ∨ (t.ctx v).seg = (s.ctx v).seg) : lnkFits t := by
  refine ⟨fun e he => ?_, answersOk_congr h.2 hl⟩
  rw [hl] at he
  exact exFits_congr (h.1 e he) rfl rfl rfl seg

/-- A change of LNK that keeps the exchange and the answer memory. -/
theorem lnkFits_modLnk {f : Lnk → Lnk} (h : lnkFits s) (he : (f s.lnk).exchange = s.lnk.exchange)
    (ha : (f s.lnk).answers = s.lnk.answers) : lnkFits (s.modLnk f) := by
  refine ⟨fun e hx => h.1 e (he ▸ hx), fun u => ?_⟩
  unfold State.answer
  rw [lnk_modLnk, ha]
  exact h.2 u

/-- No exchange is in flight. -/
theorem lnkFits_of_none (h : answersOk s) (he : s.lnk.exchange = none) : lnkFits s :=
  ⟨fun e hx => (by rw [he] at hx; cases hx), h⟩

theorem sendIn_lnkFits (h : answersOk s) (he : exFits s e) : lnkFits (sendIn e s) := by
  refine ⟨fun x hx => ?_, h⟩
  cases hx
  exact he

theorem setAnswer_lnkFits {u : UnitAddr} {x : Option Answer} (h : lnkFits s) (hx : silentAnswer x) :
    lnkFits (s.setAnswer u x) := by
  refine ⟨h.1, fun v => ?_⟩
  rw [answer_setAnswer]
  split
  · exact hx
  · exact h.2 v

theorem toOpened_lnkFits (h : answersOk s) : lnkFits (toOpened s) := lnkFits_of_none h rfl

theorem toHold_lnkFits (h : answersOk s) : lnkFits (toHold s) := lnkFits_of_none h rfl

theorem silent_answerTo (body : ReqBody) {f : CtlFrame} (h : f.callsForReply = false) : silentAnswer (answerTo body f) := by
  cases body
  case outData => exact nofun
  all_goals rintro _ ⟨⟩; exact h

theorem silent_abandonAnswer (u : UnitAddr) (body : Option ReqBody) : silentAnswer (abandonAnswer u body) := by
  cases body with
  | none => rintro _ ⟨⟩; rfl
  | some b => exact silent_answerTo b rfl

theorem silent_none : silentAnswer none := nofun

variable (e)

theorem sendAbandon_lnkFits (u : UnitAddr) {entry : Option Answer} (h : answersOk s) (hx : silentAnswer entry) :
    lnkFits (sendAbandon e u entry s) :=
  lnkFits_modLnk (setAnswer_lnkFits (sendIn_lnkFits h (exFits_of_silent rfl nofun)) hx) rfl rfl

theorem failExchange_lnkFits (u : UnitAddr) (x : Cond) {entry : Option Answer} (h : answersOk s)
    (hx : silentAnswer entry) : lnkFits (failExchange e u x entry s) :=
  sendAbandon_lnkFits e u (answersOk_congr h (failOrder_lnk s u x)) hx

theorem endExchange_lnkFits (h : answersOk s) : lnkFits (endExchange e s) := by
  have ho : lnkFits (toOpened s) := toOpened_lnkFits h
  unfold endExchange
  split
  · exact toHold_lnkFits h
  · dsimp only
    split
    · exact ho
    · split
      · refine lnkFits_of_none (answersOk_congr ho.2 (recallOver_lnk _ _)) ?_
        rw [recallOver_lnk]; rfl
      · refine lnkFits_of_none (answersOk_congr ho.2 (exchangeOver_lnk _ _)) ?_
        rw [exchangeOver_lnk]; rfl

theorem wrongFrame_lnkFits (u : UnitAddr) (f : UnitFrame) {entry : Option Answer} (h : answersOk s)
    (hx : silentAnswer entry) : lnkFits (wrongFrame e u f entry s) := by
  have hf : lnkFits (failExchange e u .protocol entry s) := failExchange_lnkFits e u .protocol h hx
  unfold wrongFrame
  split
  · split
    · refine setAnswer_lnkFits (sendIn_lnkFits (answersOk_congr hf.2 (offerStray_lnk _ _)) (exFits_of_silent rfl ?_))
        (silent_answerTo _ rfl)
      intro f hf
      rw [List.mem_singleton.mp hf]
      rfl
    · exact hf
  · exact hf

/-! ### Answers to a REQ -/

theorem datOf_length (g : Segment) (s : State) : (datOf g s).length ≤ g.remaining := by
  rw [datOf, readBytes_length]
  exact Nat.min_le_right _ _

/-- A DAT given in answer is no longer than what its segment has left (R40). -/
def givesFitting (u : UnitAddr) (r : State × OrderAnswer) : Prop :=
  ∀ bs, r.2 = .dat bs → ∀ g ∈ (r.1.ctx u).seg, bs.length ≤ g.remaining

theorem givesFitting_datOf {u : UnitAddr} {g : Segment} (h : (s.ctx u).seg = some g) :
    givesFitting u (s, .dat (datOf g s)) := by
  rintro _ ⟨⟩ g' hg'
  cases h.symm.trans hg'
  exact datOf_length g s

theorem fetchOutput_fits (u : UnitAddr) (s : State) : givesFitting u (fetchOutput u s) := by
  unfold fetchOutput
  split
  · exact nofun
  · dsimp only
    split
    · exact nofun
    · split
      · split
        · exact nofun
        · next hg => exact givesFitting_datOf hg
      · exact nofun

theorem takeOutData_fits (u : UnitAddr) (s : State) : givesFitting u (takeOutData u s) := by
  unfold takeOutData
  split
  · next hg hd =>
    split
    · exact nofun
    · split
      · exact givesFitting_datOf hg
      · split
        · exact fetchOutput_fits u s
        · exact nofun
  · exact nofun

theorem takeInData_fits (u : UnitAddr) (bs : List Byte) (s : State) : givesFitting u (takeInData u bs s) := by
  unfold takeInData
  dsimp only
  split <;> exact nofun

theorem serveReq_fits (u : UnitAddr) (body : ReqBody) (s : State) : givesFitting u (serveReq u body s) := by
  unfold serveReq
  split
  · exact nofun
  · split
    · split
      · exact takeInData_fits u _ _
      · exact nofun
    · split
      · exact takeOutData_fits u _
      · exact nofun
    · exact nofun
    · exact nofun

theorem serveOrder_lnkFits (u : UnitAddr) (body : ReqBody) (tries : Nat) (corrupt : Bool) (opener : Option GrantKind)
    (h : answersOk s) : lnkFits (serveOrder u body tries corrupt opener s) := by
  have hr : answersOk (serveReq u body s).1 := answersOk_congr h (serveReq_lnk u body s)
  have hf := serveReq_fits u body s
  unfold serveOrder
  dsimp only
  split
  · exact setAnswer_lnkFits (sendIn_lnkFits hr (exFits_of_silent rfl nofun)) (silent_answerTo body rfl)
  · exact setAnswer_lnkFits (sendIn_lnkFits hr (exFits_of_silent rfl nofun)) (silent_answerTo body rfl)
  · next bs hbs =>
    refine sendIn_lnkFits hr ⟨?_, nofun⟩
    rintro _ ⟨⟩
    exact hf bs hbs
  · exact lnkFits_modLnk (setAnswer_lnkFits (sendIn_lnkFits hr (exFits_of_silent rfl nofun)) (silent_answerTo body rfl))
      rfl rfl
  · exact failExchange_lnkFits _ u .protocol hr (silent_answerTo body rfl)

/-- A frame kept for a repeat is no DAT. -/
theorem silent_repeatAnswer {u : UnitAddr} {mark : Bool} {body : ReqBody} {f : CtlFrame} (h : answersOk s)
    (hf : s.repeatAnswer u mark body = some f) : f.callsForReply = false := by
  unfold State.repeatAnswer at hf
  split at hf
  · cases hf
  · next x hx =>
    split at hf
    · split at hf <;> cases hf <;> exact h u x hx
    · cases hf

theorem longReq_lnkFits (u : UnitAddr) (mark : Bool) (body : ReqBody) (tries : Nat) (corrupt : Bool) (h : answersOk s) :
    lnkFits (longReq u mark body tries corrupt s) := by
  unfold longReq
  split
  · next f hf => exact sendIn_lnkFits h (exFits_of_silent (silent_repeatAnswer h hf) nofun)
  · exact serveOrder_lnkFits u body tries corrupt none h

theorem answerStatus_lnkFits (u : UnitAddr) (st : Byte) (tries : Nat) (corrupt : Bool) (opener : GrantKind)
    {r : State × Bool} (h : answersOk r.1) : lnkFits (answerStatus u st tries corrupt opener r) := by
  have hf : (if r.2 then CtlFrame.tak u else .dfr u).callsForReply = false := by split <;> rfl
  exact setAnswer_lnkFits (sendIn_lnkFits h (exFits_of_silent hf nofun)) (silent_answerTo _ hf)

theorem polledReq_lnkFits (u : UnitAddr) (mark : Bool) (body : ReqBody) (h : answersOk s) :
    lnkFits (polledReq u mark body s) := by
  have hstp : lnkFits ((sendIn (reqExchange u body 1 false (some .poll) (.stp .abandon u)) s).setAnswer u
      (answerTo body (.stp .abandon u))) :=
    setAnswer_lnkFits (sendIn_lnkFits h (exFits_of_silent rfl nofun)) (silent_answerTo body rfl)
  unfold polledReq
  dsimp only
  split
  · next f hf => exact sendIn_lnkFits h (exFits_of_silent (silent_repeatAnswer h hf) nofun)
  · split
    · exact lnkFits_congr hstp (offerStray_lnk _ _) fun v => .inr (by rw [offerStray_ctx])
    · split
      · exact serveOrder_lnkFits u body 1 false _ (answersOk_congr h (connect_lnk s u))
      · split
        · exact answerStatus_lnkFits _ _ _ _ _ (answersOk_congr h (takeUnsolicited_lnk _ _ _))
        · exact hstp
        · exact hstp

/-! ### Failed tries and replies -/

theorem retryOrEnd_lnkFits (h : lnkFits s) (he : exFits s e) : lnkFits (retryOrEnd e s) := by
  have hagain : lnkFits (tryAgain e s) := sendIn_lnkFits h.2 he
  have hnoUnit : ∀ u, lnkFits (toOpened (failOrder u .noUnit s)) := fun u =>
    toOpened_lnkFits (answersOk_congr h.2 (failOrder_lnk s u .noUnit))
  have hfault : ∀ (e : Exchange) u {entry}, silentAnswer entry → lnkFits (failExchange e u .linkFault entry s) :=
    fun e u _ hx => failExchange_lnkFits e u .linkFault h.2 hx
  have hsel : ∀ u, lnkFits (if e.tries < Config.maxTries then tryAgain e s
      else if e.corrupt then failExchange e u .linkFault (abandonAnswer u none) s else toOpened (failOrder u .noUnit s)) := by
    intro u
    split
    · exact hagain
    · split
      · exact hfault e u (silent_abandonAnswer u none)
      · exact hnoUnit u
  unfold retryOrEnd
  split
  · exact hsel _
  · exact hsel _
  · next u _ _ =>
    split
    · exact hagain
    · have hr : lnkFits (toOpened (recallFailed u false s)) := by
        refine toOpened_lnkFits (answersOk_congr h.2 ?_)
        simp [recallFailed]
      refine lnkFits_of_none (answersOk_congr hr.2 (recallOver_lnk _ _)) ?_
      rw [recallOver_lnk]; rfl
  · split
    · exact hagain
    · exact hfault e _ silent_none
  · split
    · exact hagain
    · exact hfault _ _ (silent_abandonAnswer _ none)
  · exact toOpened_lnkFits h.2
  · exact h
  · exact h
  · exact toOpened_lnkFits h.2

theorem failedTry_lnkFits (corrupt : Bool) (h : lnkFits s) (he : exFits s e) : lnkFits (failedTry e corrupt s) :=
  retryOrEnd_lnkFits _ h (exFits_congr he rfl rfl rfl fun _ => .inr rfl)

theorem selectionReply_lnkFits (u : UnitAddr) (f : UnitFrame) (h : lnkFits s) (he : exFits s e) :
    lnkFits (selectionReply e u f s) := by
  have hwrong : lnkFits (failExchange e u .protocol (abandonAnswer u (reqFrom u f)) s) :=
    failExchange_lnkFits e u .protocol h.2 (silent_abandonAnswer u _)
  have haccepted : answersOk (selectionAccepted u s) := answersOk_congr h.2 (selectionAccepted_lnk s u)
  unfold selectionReply
  split
  · exact failedTry_lnkFits e true h he
  · split
    · split
      · split
        · exact lnkFits_of_none haccepted rfl
        · exact toOpened_lnkFits haccepted
      · exact toOpened_lnkFits (answersOk_congr h.2 (selectionRefused_lnk s u _))
    · exact hwrong
  all_goals exact hwrong

theorem haltSelectionReply_lnkFits (u : UnitAddr) (f : UnitFrame) (h : lnkFits s) (he : exFits s e) :
    lnkFits (haltSelectionReply e u f s) := by
  have hwrong : lnkFits (failExchange e u .protocol (abandonAnswer u (reqFrom u f)) s) :=
    failExchange_lnkFits e u .protocol h.2 (silent_abandonAnswer u _)
  unfold haltSelectionReply
  split
  · exact failedTry_lnkFits e true h he
  · split
    · exact toOpened_lnkFits (answersOk_congr h.2 (haltSelectionAnswered_lnk s u _))
    · exact hwrong
  all_goals exact hwrong

theorem recallFailed_lnk (u : UnitAddr) (wrong : Bool) (s : State) : (recallFailed u wrong s).lnk = s.lnk := by
  unfold recallFailed
  dsimp only
  split <;> simp

theorem recallReply_lnkFits (u : UnitAddr) (f : UnitFrame) (h : lnkFits s) (he : exFits s e) :
    lnkFits (recallReply e u f s) := by
  have hwrong : lnkFits (recallWrong e u f s) :=
    sendAbandon_lnkFits e u (answersOk_congr h.2 (recallFailed_lnk u true s)) (silent_abandonAnswer u _)
  unfold recallReply
  split
  · exact failedTry_lnkFits e true h he
  · split
    · split
      · next hg => exact sendIn_lnkFits h.2 (exFits_of_silent (silent_repeatAnswer h.2 hg) nofun)
      · exact answerStatus_lnkFits _ _ _ _ _ (answersOk_congr h.2 (takeDeferred_lnk _ _ _))
    · exact hwrong
  all_goals exact hwrong

theorem datReply_lnkFits (u : UnitAddr) (f : UnitFrame) (h : lnkFits s) (he : exFits s e) : lnkFits (datReply e u f s) := by
  have hwrong : lnkFits (wrongFrame e u f none s) := wrongFrame_lnkFits e u f h.2 silent_none
  unfold datReply
  split
  · exact failedTry_lnkFits e true h he
  · split
    · refine endExchange_lnkFits e fun v => ?_
      rw [answer_setAnswer]
      split
      · exact silent_none
      · exact h.2 v
    · exact hwrong
  · split
    · exact failedTry_lnkFits e false h he
    · exact hwrong
  all_goals exact hwrong

theorem longFrame_lnkFits (u : UnitAddr) (failed : Nat) (corrupt : Bool) (f : UnitFrame) (h : answersOk s) :
    lnkFits (longFrame u failed corrupt f s) := by
  have hwrong : lnkFits (wrongFrame (requestExchange u (.nak u) (failed + 1) corrupt) u f (abandonAnswer u none) s) :=
    wrongFrame_lnkFits _ u f h (silent_abandonAnswer u none)
  unfold longFrame
  dsimp only
  split
  · split
    · exact setAnswer_lnkFits (sendIn_lnkFits h (exFits_of_no_dat rfl nofun)) silent_none
    · exact failExchange_lnkFits _ u .linkFault h (silent_abandonAnswer u none)
  · split
    · exact longReq_lnkFits u _ _ _ _ h
    · exact hwrong
  all_goals exact hwrong

theorem awaitedFrame_lnkFits (f : UnitFrame) (h : lnkFits s) : lnkFits (awaitedFrame f s) := by
  unfold awaitedFrame
  split
  · exact longFrame_lnkFits _ _ _ f h.2
  · next _ e _ he =>
    have hfit := h.1 e he
    split
    · exact selectionReply_lnkFits e _ f h hfit
    · exact haltSelectionReply_lnkFits e _ f h hfit
    · cases f
      case req u mark body => exact polledReq_lnkFits u mark body h.2
      all_goals exact toOpened_lnkFits h.2
    · exact recallReply_lnkFits e _ f h hfit
    · exact datReply_lnkFits e _ f h hfit
    · exact longFrame_lnkFits _ _ _ f h.2
    · exact h
  · exact h

theorem receiveFrame_lnkFits (f : UnitFrame) (h : lnkFits s) : lnkFits (receiveFrame f s) := by
  unfold receiveFrame
  split
  · exact awaitedFrame_lnkFits f (lnkFits_modLnk h rfl rfl)
  · exact lnkFits_modLnk h rfl rfl

end

/-! ### The other rows -/

section
variable {s t : State}

theorem answersOk_cleared (h : t.lnk.answers = Vector.replicate 32 none) : answersOk t := fun u => by
  unfold State.answer
  rw [h]
  simp [silentAnswer]

/-- LNK after the link-reset condition has begun. -/
theorem lnkFits_linkReset {l : Lnk} (h : t.lnk = { l with exchange := none, answers := Vector.replicate 32 none }) :
    lnkFits t :=
  lnkFits_of_none (answersOk_cleared (by rw [h])) (by rw [h])

theorem linkResetSteps_lnk (s : State) : (linkResetSteps s).lnk = (beginLinkReset s).lnk := by
  unfold linkResetSteps
  simp only [offerBoth_lnk, setDeferred_lnk, modStopQ_lnk, modSelectQ_lnk]
  exact foldl_keeps (fun s u => linkResetContext u s) State.lnk (fun s u => linkResetContext_lnk s u) allUnits _

theorem takeAgreedReset_lnk (s : State) : (takeAgreedReset s).lnk = (beginLinkReset (resetBlocks .part s)).lnk := rfl

variable {D : Scope}

theorem PortActs.keeps_lnkFits (h : PortActs D s t) (hm : ¬ D.moves) (hs : lnkFits s) : lnkFits t := by
  induction h with
  | refl => exact hs
  | tail _ hxy ih =>
    cases hxy
    case quiet h => exact lnkFits_congr ih (Quiet.lnk_eq h) (Quiet.seg_cases h hm)
    case linkReset => exact lnkFits_linkReset (l := (beginLinkReset _).lnk) (linkResetSteps_lnk _)
    case agreed => exact lnkFits_linkReset (l := (beginLinkReset (resetBlocks .part _)).lnk) (takeAgreedReset_lnk _)

/-- A grant's first frame is no DAT. -/
theorem openGrant_lnkFits (g : GrantKind) (k : ExKind) (u : Option UnitAddr) {f : CtlFrame} (h : answersOk s)
    (hf : ∀ v bs, f ≠ .dat v bs) : lnkFits (openGrant g k u f s) := by
  have hlen : ({ kind := k, unit := u, frame := f, tries := 1, corrupt := false, opener := some g, sending := true,
                 more := [] } : Exchange).datLength = 0 := by
    unfold Exchange.datLength
    split
    · next v bs hd => exact absurd hd (hf v bs)
    · rfl
  exact sendIn_lnkFits (s := s.modLnk (fun l => { l with grantMem := some g })) h (exFits_of_no_dat hlen nofun)

theorem answersOk_setAnswer_none (u : UnitAddr) (h : answersOk s) : answersOk (s.setAnswer u none) := fun v => by
  rw [answer_setAnswer]
  split
  · exact silent_none
  · exact h v

theorem execFrameSent_lnkFits (h : lnkFits s) : ∃ t, execFrameSent s = .next t ∧ lnkFits t := by
  unfold execFrameSent
  split
  · next e _ he =>
    obtain ⟨hdat, hmore⟩ := h.1 e he
    split
    · split
      · next f fs hm =>
        refine ⟨_, rfl, fun x hx => ?_, h.2⟩
        cases hx
        exact exFits_of_silent (hmore f (by simp [hm])) fun y hy => hmore y (by simp [hm, hy])
      · split
        · refine ⟨_, rfl, fun x hx => ?_, h.2⟩
          cases hx
          exact ⟨hdat, hmore⟩
        · exact ⟨_, rfl, endExchange_lnkFits e h.2⟩
    · exact ⟨s, rfl, h⟩
  · exact ⟨s, rfl, h⟩

theorem execFrameStart_lnkFits (h : lnkFits s) : ∃ t, execFrameStart s = .next t ∧ lnkFits t := by
  unfold execFrameStart
  split
  · exact ⟨s, rfl, h⟩
  · split
    · exact ⟨_, rfl, lnkFits_modLnk h rfl rfl⟩
    · split
      · exact ⟨s, rfl, h⟩
      · exact ⟨_, rfl, lnkFits_modLnk h rfl rfl⟩

theorem execReplyTimerExpiry_lnkFits (h : lnkFits s) : ∃ t, execReplyTimerExpiry s = .next t ∧ lnkFits t := by
  unfold execReplyTimerExpiry
  split
  · next e _ he => exact ⟨_, rfl, failedTry_lnkFits e false (lnkFits_modLnk h rfl rfl) (h.1 e he)⟩
  · exact ⟨s, rfl, h⟩

theorem execGapTimerExpiry_lnkFits (h : lnkFits s) : ∃ t, execGapTimerExpiry s = .next t ∧ lnkFits t := by
  unfold execGapTimerExpiry
  split
  · exact ⟨_, rfl, failExchange_lnkFits _ _ .linkFault h.2 (silent_abandonAnswer _ none)⟩
  · exact ⟨s, rfl, h⟩

theorem execHaltSelectionGrant_lnkFits (h : lnkFits s) : ∃ t, execHaltSelectionGrant s = .next t ∧ lnkFits t := by
  unfold execHaltSelectionGrant
  split
  · next u rest _ _ =>
    exact ⟨_, rfl, openGrant_lnkFits _ _ _ (answersOk_setAnswer_none (s := enterSelecting u _) u h.2) nofun⟩
  · exact ⟨s, rfl, h⟩

theorem execSelectionGrant_lnkFits (h : lnkFits s) : ∃ t, execSelectionGrant s = .next t ∧ lnkFits t := by
  unfold execSelectionGrant
  split
  · next u rest _ _ =>
    exact ⟨_, rfl, openGrant_lnkFits _ _ _ (answersOk_setAnswer_none (s := enterSelecting u _) u h.2) nofun⟩
  · exact ⟨s, rfl, h⟩

theorem execPollGrant_lnkFits (h : lnkFits s) : ∃ t, execPollGrant s = .next t ∧ lnkFits t := by
  unfold execPollGrant
  split
  · exact ⟨_, rfl, openGrant_lnkFits _ _ _ h.2 nofun⟩
  · exact ⟨s, rfl, h⟩

theorem execRecallGrant_lnkFits (h : lnkFits s) : ∃ t, execRecallGrant s = .next t ∧ lnkFits t := by
  unfold execRecallGrant
  split
  · refine ⟨_, rfl, openGrant_lnkFits _ _ _ (answersOk_setAnswer_none _ ?_) nofun⟩
    split <;> exact h.2
  · exact ⟨s, rfl, h⟩

theorem execSilenceTimerExpiry_lnkFits (u : UnitAddr) (h : lnkFits s) :
    ∃ t, execSilenceTimerExpiry u s = .next t ∧ lnkFits t := by
  unfold execSilenceTimerExpiry
  split
  · refine ⟨_, rfl, lnkFits_congr h (haltOnLink_lnk _ u .timeout) fun v => .inr ?_⟩
    rw [haltOnLink_ctx, ctx_modCtx, ctx_modCtx]
    by_cases hv : v = u <;> simp [hv, halted]
  · exact ⟨s, rfl, h⟩

end

/-! ### Resets and start-up -/

section
variable {s : State}

theorem captureAndStart_lnkFits (x : Straps) (s : State) : lnkFits (captureAndStart x s) :=
  lnkFits_linkReset (l := (beginLinkReset s).lnk) rfl

theorem resetBlocks_lnkFits (cause : ResetCause) (s : State) (f : Dsc → Dsc) : lnkFits ((resetBlocks cause s).modDsc f) :=
  lnkFits_of_none (answersOk_cleared rfl) rfl

theorem execPowerOnEnd_lnkFits (x : Straps) (h : lnkFits s) : ∃ t, execPowerOnEnd x s = .next t ∧ lnkFits t := by
  unfold execPowerOnEnd
  split
  · split
    · exact ⟨_, rfl, h⟩
    · exact ⟨_, rfl, captureAndStart_lnkFits x s⟩
  · exact ⟨s, rfl, h⟩

theorem execResetAssert_lnkFits (h : lnkFits s) : ∃ t, execResetAssert s = .next t ∧ lnkFits t := by
  unfold execResetAssert
  split
  · exact ⟨_, rfl, resetBlocks_lnkFits .pin s _⟩
  · exact ⟨_, rfl, h⟩

theorem execResetRelease_lnkFits (x : Straps) (h : lnkFits s) : ∃ t, execResetRelease x s = .next t ∧ lnkFits t := by
  unfold execResetRelease
  split
  · exact ⟨_, rfl, captureAndStart_lnkFits x _⟩
  · exact ⟨_, rfl, h⟩

theorem execBreakEnd_lnkFits (h : lnkFits s) : ∃ t, execBreakEnd s = .next t ∧ lnkFits t := by
  unfold execBreakEnd
  split
  · exact ⟨_, rfl, lnkFits_modLnk h rfl rfl⟩
  · exact ⟨s, rfl, h⟩

theorem execSettleEnd_lnkFits (h : lnkFits s) : ∃ t, execSettleEnd s = .next t ∧ lnkFits t := by
  unfold execSettleEnd
  split
  · have h1 : lnkFits (s.modLnk (fun l => { l with link := .opened, linkTimer := .stopped, srqSampled := l.srqLine })) :=
      lnkFits_modLnk h rfl rfl
    dsimp only
    split
    · refine ⟨_, rfl, ?_⟩
      unfold settleStartUp
      split <;> exact h1
    · exact ⟨_, rfl, h1⟩
  · exact ⟨s, rfl, h⟩

theorem execLoadAttemptEnd_lnkFits (image : List Byte) (h : lnkFits s) :
    ∃ t, execLoadAttemptEnd image s = .next t ∧ lnkFits t := by
  have hquiet : ∀ {t}, Quiets { dat := False, moves := False } s t → lnkFits t := fun hq =>
    PortActs.keeps_lnkFits hq.portActs (D := { dat := False, moves := False }) id h
  unfold execLoadAttemptEnd
  split
  · next hl _ => exact ⟨_, rfl, hquiet (loadSucceeds_quiets _ s _ (.inl hl))⟩
  · exact ⟨_, rfl, h⟩
  · next hl _ => exact ⟨_, rfl, hquiet (loadSucceeds_quiets _ s _ (.inr hl))⟩
  · next hl _ => exact ⟨_, rfl, hquiet (loadFails_quiets _ s (.inr hl))⟩
  all_goals exact ⟨s, rfl, h⟩

/-- Every command keeps the frame in flight one its segment can give. -/
theorem exec_lnkFits (c : Instr) (h : lnkFits s) : ∃ t, exec c s = .next t ∧ lnkFits t := by
  by_cases hp : isPortRow c = true
  · obtain ⟨t, he, ha⟩ := exec_portActs { dat := False, moves := False } s hp
    exact ⟨t, he, PortActs.keeps_lnkFits ha id h⟩
  cases hl : linkFrame c with
  | some f => exact ⟨_, exec_linkFrame s hl, receiveFrame_lnkFits f h⟩
  | none =>
    cases c
    case powerOn => exact ⟨_, rfl, resetBlocks_lnkFits .powerOn s _⟩
    case powerOnEnd x => exact execPowerOnEnd_lnkFits x h
    case resetAssert => exact execResetAssert_lnkFits h
    case resetRelease x => exact execResetRelease_lnkFits x h
    case breakEnd => exact execBreakEnd_lnkFits h
    case settleEnd => exact execSettleEnd_lnkFits h
    case loadAttemptEnd image => exact execLoadAttemptEnd_lnkFits image h
    case srqChange x => exact ⟨_, rfl, lnkFits_modLnk h rfl rfl⟩
    case haltSelectionGrant => exact execHaltSelectionGrant_lnkFits h
    case recallGrant => exact execRecallGrant_lnkFits h
    case pollGrant => exact execPollGrant_lnkFits h
    case selectionGrant => exact execSelectionGrant_lnkFits h
    case frameSent => exact execFrameSent_lnkFits h
    case replyTimerExpiry => exact execReplyTimerExpiry_lnkFits h
    case gapTimerExpiry => exact execGapTimerExpiry_lnkFits h
    case silenceTimerExpiry u => exact execSilenceTimerExpiry_lnkFits u h
    case frameStart => exact execFrameStart_lnkFits h
    case rsp => cases hl
    case reqInData => cases hl
    case reqOutData => cases hl
    case reqStatus => cases hl
    case reqRepeat => cases hl
    case ack => cases hl
    case nak => cases hl
    case corruptFrame => cases hl
    all_goals exact absurd rfl hp

/-- Settles O58: every act keeps each context within its pages, for a DAT in flight is no longer than what its segment has
left, and every row keeps that. -/
theorem everyStepKeepsSegmentsInTheirPage : Obligations.EveryStepKeepsSegmentsInTheirPage := by
  intro s t hs hstep
  obtain ⟨hpage, hlnk⟩ := (segmentsOk_iff s).mp hs
  unfold step at hstep
  split at hstep
  · cases hstep
    exact hs
  · next i rest _ =>
    obtain ⟨t1, he1, ha⟩ := exec_acts { dat := True, moves := True } { s with pending := rest } i
      (fun _ e he => (hlnk.1 e he).1) fun _ => trivial
    obtain ⟨t2, he2, hl⟩ := exec_lnkFits (s := { s with pending := rest }) i hlnk
    cases he1.symm.trans hstep
    cases he2.symm.trans hstep
    exact (segmentsOk_iff t).mpr
      ⟨ha.keeps (P := fun s => ∀ v, inPage (s.ctx v)) (fun _ _ h => Act.keeps_inPage h trivial) hpage, hl⟩

end

end Sys2Proof.Segments
end

section
/-! PROOFS. The link serves the contexts in SELECTING and CONNECTED and no other: what each operation makes of a context's state. -/

namespace Sys2Proof.LinkServes

open Sys2Proof.Machine Sys2Proof.Laws Sys2Proof.StepActs Sys2Proof.PortClear Sys2Proof.Segments

/-- The link serves a context: its unit is being selected, or has a connection (R6, R7). -/
def isServed (c : Context) : Prop := c.state = .selecting ∨ c.state = .connected

/-- The link serves no context. -/
def unserved (s : State) : Prop := ∀ v, ¬ isServed (s.ctx v)

/-- The link serves no context but that of this unit. -/
def servesOnly (u : UnitAddr) (s : State) : Prop := ∀ v, v ≠ u → ¬ isServed (s.ctx v)

section
variable {s t : State} {u v : UnitAddr}

theorem isServed_congr {c c' : Context} (h : c'.state = c.state) : isServed c' ↔ isServed c := by rw [isServed, h]; rfl

theorem inProgress_of_served {c : Context} (h : isServed c) : c.inProgress = true := by
  rcases h with h | h <;> simp [Context.inProgress, h]

theorem not_served_of_ended {c : Context} (h : c.inProgress = false) : ¬ isServed c := fun hs => by
  simp [inProgress_of_served hs] at h

theorem unserved_of_only (h : servesOnly u s) (hu : ¬ isServed (s.ctx u)) : unserved s := fun v => by
  by_cases hv : v = u
  · subst hv; exact hu
  · exact h v hv

theorem servesOnly_congr (h : servesOnly u s) (hc : ∀ v, v ≠ u → (t.ctx v).state = (s.ctx v).state) : servesOnly u t :=
  fun v hv => by rw [isServed_congr (hc v hv)]; exact h v hv

theorem unserved_congr (h : unserved s) (hc : ∀ v, (t.ctx v).state = (s.ctx v).state) : unserved t :=
  fun v => by rw [isServed_congr (hc v)]; exact h v

/-! ### The operations of an order -/

theorem placeFrame_state (u v : UnitAddr) : ∀ (more : Nat) (bs : List Byte) (s : State),
    ((placeFrame more u bs s).1.ctx v).state = (s.ctx v).state
  | 0, _, _ => rfl
  | more + 1, bs, s => by
    have hplaced : ∀ g bs, ((testLookahead u (placeSome u g bs s)).ctx v).state = (s.ctx v).state := by
      intro g bs
      by_cases hv : v = u <;> simp [hv]
    unfold placeFrame
    split
    · rfl
    · next g _ =>
      dsimp only
      have hs := hplaced g (bs.take g.remaining)
      generalize testLookahead u (placeSome u g (bs.take g.remaining) s) = s1 at hs ⊢
      split
      · exact hs
      · split
        · exact hs
        · split
          · split
            · rw [placeFrame_state u v more]; simpa using hs
            · simpa using hs
          · by_cases hv : v = u
            · subst hv; simpa [Context.gain, Context.requestHalt] using hs
            · simpa [hv] using hs
          · simpa using hs

theorem fetchOutput_state : ((fetchOutput u s).1.ctx v).state = (s.ctx v).state := by
  have hjumps : ∀ n, ((s.modCtx u (fun c => { c with jumps := n })).ctx v).state = (s.ctx v).state := by
    intro n
    by_cases hv : v = u <;> simp [hv]
  unfold fetchOutput
  split
  · rfl
  · dsimp only
    split
    · by_cases hv : v = u <;> simp [hv, Context.gain, Context.requestHalt]
    · (repeat' split) <;> simpa using hjumps _

theorem takeOutData_state : ((takeOutData u s).1.ctx v).state = (s.ctx v).state := by
  unfold takeOutData
  (repeat' split) <;> simp [fetchOutput_state]

theorem continueChain_state_of_ne (d : Descriptor) (a : Word) (hv : v ≠ u) :
    ((continueChain u d a s).ctx v).state = (s.ctx v).state := by
  unfold continueChain
  dsimp only
  split <;> simp [hv]

theorem continueChain_state (d : Descriptor) (a : Word) : ((continueChain u d a s).ctx u).state = .queued := by
  unfold continueChain
  dsimp only
  split <;> simp

theorem takeEnding_state_of_ne (st : UStatus) (b : Bool) (hv : v ≠ u) :
    ((takeEnding u st b s).ctx v).state = (s.ctx v).state := by
  unfold takeEnding
  dsimp only
  (repeat' split) <;> simp [endOrder_ctx_of_ne _ hv, continueChain_state_of_ne _ _ hv, hv]

/-- An ending status taken ends the order or queues the next one. -/
theorem takeEnding_not_served (st : UStatus) (b : Bool) : ¬ isServed ((takeEnding u st b s).ctx u) := by
  unfold takeEnding
  dsimp only
  split
  · split
    · exact not_served_of_ended (endOrder_inProgress _)
    · split
      · rw [isServed, continueChain_state]; simp
      · exact not_served_of_ended (endOrder_inProgress _)
  · exact not_served_of_ended (endOrder_inProgress _)

theorem serveReq_state_of_ne (body : ReqBody) (hv : v ≠ u) : ((serveReq u body s).1.ctx v).state = (s.ctx v).state := by
  unfold serveReq
  (repeat' split)
  · rfl
  · rw [takeInData, placeFrame_state, ensureSegment_state]
  · exact ensureSegment_state
  · rw [takeOutData_state, ensureSegment_state]
  · exact ensureSegment_state
  · exact takeEnding_state_of_ne _ _ hv
  · rfl

/-- An answer but TAK leaves the context as it is; TAK ends its service. -/
theorem serveReq_state (u : UnitAddr) (body : ReqBody) (s : State) :
    ((serveReq u body s).2 = .tak ∧ ¬ isServed ((serveReq u body s).1.ctx u)) ∨
      ((serveReq u body s).2 ≠ .tak ∧ ((serveReq u body s).1.ctx u).state = (s.ctx u).state) := by
  have hout : ∀ s, (takeOutData u s).2 ≠ .tak := by
    intro s
    unfold takeOutData fetchOutput
    dsimp only
    (repeat' split) <;> exact nofun
  unfold serveReq
  split
  · exact .inr ⟨nofun, rfl⟩
  · split
    · split
      · refine .inr ⟨?_, by rw [takeInData, placeFrame_state, ensureSegment_state]⟩
        unfold takeInData
        dsimp only
        split <;> exact nofun
      · exact .inr ⟨nofun, ensureSegment_state⟩
    · split
      · exact .inr ⟨hout _, by rw [takeOutData_state, ensureSegment_state]⟩
      · exact .inr ⟨nofun, ensureSegment_state⟩
    · exact .inl ⟨rfl, takeEnding_not_served _ _⟩
    · exact .inr ⟨nofun, rfl⟩

theorem failOrder_servesOnly (x : Cond) (h : servesOnly u s) : unserved (failOrder u x s) :=
  unserved_of_only (servesOnly_congr h fun v hv => by rw [failOrder_ctx_of_ne x hv])
    (not_served_of_ended (failOrder_inProgress x))

theorem failOrder_unserved (x : Cond) (h : unserved s) : unserved (failOrder u x s) :=
  failOrder_servesOnly x fun v _ => h v

/-! ### Connections -/

theorem enterDisconnected_servesOnly (h : servesOnly u s) : unserved (enterDisconnected u s) := by
  refine unserved_of_only (servesOnly_congr h fun v hv => by rw [enterDisconnected_ctx, if_neg hv]) ?_
  rw [enterDisconnected_ctx, if_pos rfl]
  simp [isServed]

theorem exchangeOver_servesOnly (h : servesOnly u s) (hs : (s.ctx u).state ≠ .selecting) : unserved (exchangeOver u s) := by
  unfold exchangeOver
  split
  · exact enterDisconnected_servesOnly h
  · next hc => exact unserved_of_only h fun hx => hx.elim hs hc

theorem recallOver_state : ((recallOver u s).ctx v).state = (s.ctx v).state := by
  unfold recallOver
  split
  · by_cases hv : v = u <;> simp [hv]
  · rfl

theorem connect_ctx (s : State) (u v : UnitAddr) : (connect u s).ctx v =
    if v = u then { s.ctx u with state := .connected, silence := .stopped, stopQueued := false } else s.ctx v := by
  simp [connect]

theorem haltOnLink_state (cause : HaltCause) : ((haltOnLink u cause s).ctx v).state = (s.ctx v).state := by
  rw [haltOnLink_ctx]
  by_cases hv : v = u <;> simp [hv, halted]

/-- A selection's acceptance connects a LONG unit and leaves a SHORT one DISCONNECTED; either way no other unit is served. -/
theorem selectionAccepted_long (h : servesOnly u s) (hs : (s.ctx u).state = .selecting) (hm : s.mode u = .long) :
    servesOnly u (selectionAccepted u s) ∧ ((selectionAccepted u s).ctx u).state = .connected := by
  unfold selectionAccepted
  rw [if_pos hs, hm]
  exact ⟨servesOnly_congr h fun v hv => by simp [hv], by simp⟩

theorem selectionAccepted_short (h : servesOnly u s) (hm : s.mode u = .short) : unserved (selectionAccepted u s) ∨
    (s.ctx u).state ≠ .selecting := by
  unfold selectionAccepted
  split
  · rw [hm]; exact .inl (enterDisconnected_servesOnly h)
  · next hs => exact .inr hs

theorem selectionRefused_servesOnly (st : UStatus) (h : servesOnly u s) (hs : (s.ctx u).state = .selecting) :
    unserved (selectionRefused u st s) := by
  unfold selectionRefused
  rw [if_pos hs]
  exact unserved_of_only (servesOnly_congr h fun v hv => by rw [endOrder_ctx_of_ne _ hv]; simp [hv])
    (not_served_of_ended (endOrder_inProgress _))

theorem haltSelectionAnswered_servesOnly (st : UStatus) (h : servesOnly u s) (hs : (s.ctx u).state = .selecting) :
    unserved (haltSelectionAnswered u st s) := by
  unfold haltSelectionAnswered
  rw [if_pos hs]
  exact unserved_of_only (servesOnly_congr h fun v hv => takeEnding_state_of_ne _ _ hv) (takeEnding_not_served _ _)

theorem recallFailed_unserved (wrong : Bool) (h : unserved s) : unserved (recallFailed u wrong s) := by
  have hl : unserved (recallLost u s) := unserved_congr h fun v => by rw [recallLost_ctx]
  unfold recallFailed
  dsimp only
  split
  · exact failOrder_unserved .protocol hl
  · exact hl

end

end Sys2Proof.LinkServes
end

section
/-! PROOFS. The link invariant: the forms a state of the link can take after a row, and every row of the link leads to one. -/

namespace Sys2Proof.LinkServes

open Sys2Proof.Machine Sys2Proof.Laws Sys2Proof.StepActs Sys2Proof.Segments

/-! ### The forms of a state of the link -/

/-- A reset in progress holds DSC and LNK at their reset values (R153). -/
def phaseOk (s : State) : Prop :=
  s.dsc.phase ≠ .none → s.dsc.part = .loading ∧ s.dsc.load = .none ∧ s.lnk.link = .inBreak ∧ s.lnk.linkTimer = .stopped

/-- No reset is in progress, and no frame that LNK waited for is being received. -/
def settled (s : State) : Prop := s.dsc.phase = .none ∧ s.lnk.reception ≠ .awaited

/-- The frames of an exchange: none that follows calls for a reply, nor does a frame that another follows (R85). -/
def framesOk (e : Exchange) : Prop :=
  (∀ f ∈ e.more, f.callsForReply = false) ∧ (e.more ≠ [] → e.frame.callsForReply = false)

/-- An exchange is a selection. -/
def selects (e : Exchange) : Prop := e.kind = .selection ∨ e.kind = .haltSelection

/-- An exchange serves a REQ. -/
def answersReq (e : Exchange) : Prop := e.kind = .dataIn ∨ e.kind = .dataOut ∨ e.kind = .status

section
variable {s t : State} {e : Exchange} {u : UnitAddr}

theorem phaseOk_of_settled (h : settled s) : phaseOk s := fun hp => absurd h.1 hp

theorem framesOk_of_last (h : e.more = []) : framesOk e := by simp [framesOk, h]

/-- The link invariant from what is served, in a state whose link listens for nothing. -/
theorem linkOk_of_silent (hr : s.lnk.replyTimer.runs = false) (hg : s.lnk.gapTimer.runs = false)
    (ha : s.lnk.reception ≠ .awaited) (hf : ∀ e ∈ s.lnk.exchange, framesOk e) (hp : phaseOk s)
    (h1 : ∀ u, (s.ctx u).state = .selecting → s.selectionInFlight u)
    (h2 : ∀ e ∈ s.lnk.exchange, selects e → e.frame.callsForReply = true → ∃ u ∈ e.unit, (s.ctx u).state = .selecting)
    (h3 : ∀ u, (s.ctx u).state = .connected → s.lnk.conn = some u ∨ s.polledExchange u)
    (h4 : ∀ u, s.lnk.conn = some u → (s.ctx u).state = .connected ∧
      (s.lnk.link = .hold ∨ (s.lnk.link = .exchange ∧ ∃ e ∈ s.lnk.exchange, e.unit = some u ∧
        (e.kind = .dataIn ∨ e.kind = .dataOut ∨ e.kind = .status ∨ e.kind = .request))))
    (h5 : s.lnk.exchange.isSome ↔ s.lnk.link = .exchange) : s.linkOk := by
  refine ⟨h1, h2, h3, h4, h5, ⟨?_, fun h => absurd h ha, hf⟩, hp⟩
  rintro (h | h | h)
  · rw [hr] at h; cases h
  · rw [hg] at h; cases h
  · exact absurd h ha

/-- No exchange and no connection: the link serves nobody. -/
theorem linkOk_of_free (hu : unserved s) (hc : s.lnk.conn = none) (he : s.lnk.exchange = none)
    (hl : s.lnk.link ≠ .exchange) (hr : s.lnk.replyTimer.runs = false) (hg : s.lnk.gapTimer.runs = false)
    (ha : s.lnk.reception ≠ .awaited) (hp : phaseOk s) : s.linkOk := by
  refine linkOk_of_silent hr hg ha (by simp [he]) hp (fun v hv => absurd (.inl hv) (hu v)) (by simp [he])
    (fun v hv => absurd (.inr hv) (hu v)) (by simp [hc]) ?_
  simp [he, hl]

theorem linkOk_toOpened (hu : unserved s) (hs : settled s) : (toOpened s).linkOk :=
  linkOk_of_free hu rfl rfl nofun rfl rfl hs.2 (phaseOk_of_settled hs)

/-- A frame is being sent, and no context is served. -/
theorem linkOk_sendIn_unserved (hu : unserved s) (hs : settled s) (hc : s.lnk.conn = none) (hf : framesOk e)
    (hsel : selects e → e.frame.callsForReply = false) : (sendIn e s).linkOk := by
  refine linkOk_of_silent rfl rfl hs.2 ?_ (phaseOk_of_settled hs) (fun v hv => absurd (.inl hv) (hu v)) ?_
    (fun v hv => absurd (.inr hv) (hu v)) ?_ (by simp [sendIn])
  · rintro _ ⟨⟩; exact hf
  · rintro _ ⟨⟩ hk hcall
    rw [hsel hk] at hcall
    cases hcall
  · intro v hv
    exact absurd (hv.symm.trans hc) (by simp)

/-- A selection is being sent: its unit's context and no other is served. -/
theorem linkOk_sendIn_selecting (ho : servesOnly u s) (hu : (s.ctx u).state = .selecting) (hs : settled s)
    (hc : s.lnk.conn = none) (hk : selects e) (hun : e.unit = some u) (hcall : e.frame.callsForReply = true)
    (hm : e.more = []) : (sendIn e s).linkOk := by
  refine linkOk_of_silent rfl rfl hs.2 ?_ (phaseOk_of_settled hs) (fun v hv => ?_) ?_ (fun v hv => ?_) ?_ (by simp [sendIn])
  · rintro _ ⟨⟩; exact framesOk_of_last hm
  · by_cases hvu : v = u
    · subst hvu; exact ⟨rfl, hc, _, rfl, hun, hk, hcall, hm⟩
    · exact absurd (.inl hv) (ho v hvu)
  · rintro _ ⟨⟩ - -
    exact ⟨u, hun, hu⟩
  · by_cases hvu : v = u
    · subst hvu; exact absurd (hu.symm.trans hv) (by simp)
    · exact absurd (.inr hv) (ho v hvu)
  · intro v hv
    exact absurd (hv.symm.trans hc) (by simp)

/-- A frame of a connection is being sent: its context and no other is served. -/
theorem linkOk_sendIn_connected (ho : servesOnly u s) (hu : (s.ctx u).state = .connected) (hs : settled s)
    (hf : framesOk e) (hun : e.unit = some u)
    (hconn : s.lnk.conn = some u ∧ (answersReq e ∨ e.kind = .request) ∨
      s.lnk.conn = none ∧ e.opener = some .poll ∧ answersReq e) : (sendIn e s).linkOk := by
  have hkind : ¬ selects e := by
    unfold selects
    have : answersReq e ∨ e.kind = .request := by
      rcases hconn with ⟨-, h⟩ | ⟨-, -, h⟩
      · exact h
      · exact .inl h
    rcases this with (h | h | h) | h <;> simp [h]
  refine linkOk_of_silent rfl rfl hs.2 ?_ (phaseOk_of_settled hs) (fun v hv => ?_) ?_ (fun v hv => ?_) ?_ (by simp [sendIn])
  · rintro _ ⟨⟩; exact hf
  · by_cases hvu : v = u
    · subst hvu; exact absurd (hu.symm.trans hv) (by simp)
    · exact absurd (.inl hv) (ho v hvu)
  · rintro _ ⟨⟩ hk; exact absurd hk hkind
  · by_cases hvu : v = u
    · subst hvu
      rcases hconn with ⟨h, -⟩ | ⟨h, hop, hk⟩
      · exact .inl h
      · exact .inr ⟨rfl, h, _, rfl, hun, hop, hk⟩
    · exact absurd (.inr hv) (ho v hvu)
  · intro v hv
    have hv' : s.lnk.conn = some v := hv
    rcases hconn with ⟨h, hk⟩ | ⟨h, -⟩
    · cases h.symm.trans hv'
      refine ⟨hu, .inr ⟨rfl, _, rfl, hun, ?_⟩⟩
      rcases hk with (hk | hk | hk) | hk
      · exact .inl hk
      · exact .inr (.inl hk)
      · exact .inr (.inr (.inl hk))
      · exact .inr (.inr (.inr hk))
    · exact absurd (h.symm.trans hv') (by simp)

/-- The link is in HOLD for the connection of this unit, which alone is served. -/
theorem linkOk_toHold (ho : servesOnly u s) (hu : (s.ctx u).state = .connected) (hs : settled s)
    (hc : s.lnk.conn = some u) : (toHold s).linkOk := by
  refine ⟨fun v hv => ?_, nofun, fun v hv => ?_, fun v hv => ?_, by simp [toHold],
    ⟨fun _ => .inl rfl, fun h => absurd h hs.2, nofun⟩, phaseOk_of_settled hs⟩
  · by_cases hvu : v = u
    · subst hvu; exact absurd (hu.symm.trans hv) (by simp)
    · exact absurd (.inl hv) (ho v hvu)
  · by_cases hvu : v = u
    · subst hvu; exact .inl hc
    · exact absurd (.inr hv) (ho v hvu)
  · cases hc.symm.trans hv
    exact ⟨hu, .inl rfl⟩

/-- The link invariant reads LNK, what a reset holds of DSC, and which contexts are served. -/
theorem linkOk_congr (h : s.linkOk) (hl : t.lnk = s.lnk) (hp : phaseOk t)
    (hs : ∀ v, (t.ctx v).state = .selecting ↔ (s.ctx v).state = .selecting)
    (hc : ∀ v, (t.ctx v).state = .connected ↔ (s.ctx v).state = .connected) : t.linkOk := by
  obtain ⟨h1, h2, h3, h4, h5, h6, -⟩ := h
  refine ⟨fun v hv => ?_, fun e he hk hcall => ?_, fun v hv => ?_, fun v hv => ?_, ?_, ?_, hp⟩
  · rw [State.selectionInFlight, hl]; exact h1 v ((hs v).mp hv)
  · rw [hl] at he
    obtain ⟨u, hu, hst⟩ := h2 e he hk hcall
    exact ⟨u, hu, (hs u).mpr hst⟩
  · rw [State.polledExchange, hl]; exact h3 v ((hc v).mp hv)
  · rw [hl] at hv
    rw [hc v, hl]
    exact h4 v hv
  · rw [hl]; exact h5
  · rw [State.listensOk, hl]; exact h6

theorem linkOk_of_states (h : s.linkOk) (hl : t.lnk = s.lnk) (hd : t.dsc = s.dsc)
    (hc : ∀ v, (t.ctx v).state = (s.ctx v).state) : t.linkOk := by
  have hp : phaseOk t := by
    obtain ⟨-, -, -, -, -, -, hp⟩ := h
    rw [phaseOk, hl, hd]
    exact hp
  exact linkOk_congr h hl hp (fun v => by rw [hc v]) fun v => by rw [hc v]

theorem linkOk_setAnswer (x : Option Answer) (h : s.linkOk) : (s.setAnswer u x).linkOk := h

theorem linkOk_sendAbandon (e : Exchange) (x : Option Answer) (hu : unserved s) (hs : settled s) :
    (sendAbandon e u x s).linkOk := by
  refine linkOk_of_silent rfl rfl hs.2 ?_ (phaseOk_of_settled hs) (fun v hv => absurd (.inl hv) (hu v)) ?_
    (fun v hv => absurd (.inr hv) (hu v)) nofun (by simp [sendAbandon, sendIn])
  · rintro _ ⟨⟩; exact framesOk_of_last rfl
  · rintro _ ⟨⟩ - hcall; cases hcall

theorem settled_congr (h : settled s) (hd : t.dsc = s.dsc) (hl : t.lnk = s.lnk) : settled t := by
  unfold settled
  rwa [hd, hl]

theorem linkOk_failExchange (e : Exchange) (x : Cond) (a : Option Answer) (ho : servesOnly u s) (hs : settled s) :
    (failExchange e u x a s).linkOk :=
  linkOk_sendAbandon e a (failOrder_servesOnly x ho) (settled_congr hs (by simp) (by simp))

theorem failExchange_state (e : Exchange) (x : Cond) (a : Option Answer) (v : UnitAddr) :
    ((failExchange e u x a s).ctx v).state = ((failOrder u x s).ctx v).state := by
  simp [failExchange]

theorem linkOk_wrongFrame (e : Exchange) (f : UnitFrame) (a : Option Answer) (ho : servesOnly u s) (hs : settled s)
    (hk : ¬ selects e) : (wrongFrame e u f a s).linkOk := by
  have hfail := linkOk_failExchange e .protocol a ho hs
  unfold wrongFrame
  split
  · split
    · refine linkOk_setAnswer _ (linkOk_sendIn_unserved ?_ ?_ ?_ ?_ fun h => absurd h hk)
      · refine unserved_congr (failOrder_servesOnly .protocol ho) fun v => ?_
        rw [offerStray_ctx, failExchange_state]
      · exact ⟨by simpa using hs.1, by simpa [failExchange, sendAbandon, sendIn] using hs.2⟩
      · rw [offerStray_lnk]; rfl
      · exact ⟨fun f hf => by rw [List.mem_singleton.mp hf]; rfl, fun _ => rfl⟩
    · exact hfail
  · exact hfail

/-! ### Answers -/

theorem placeFrame_dsc (u : UnitAddr) : ∀ (more : Nat) (bs : List Byte) (s : State),
    (placeFrame more u bs s).1.dsc = s.dsc
  | 0, _, _ => rfl
  | more + 1, bs, s => by
    unfold placeFrame
    split
    · rfl
    · dsimp only
      (repeat' split) <;> simp [placeFrame_dsc u more]

theorem serveReq_dsc (u : UnitAddr) (body : ReqBody) (s : State) : (serveReq u body s).1.dsc = s.dsc := by
  unfold serveReq
  (repeat' split) <;> simp [takeInData, placeFrame_dsc]

theorem serveReq_of_not_connected (body : ReqBody) (h : (s.ctx u).state ≠ .connected) :
    serveReq u body s = (s, .wrongKind) := by
  unfold serveReq
  rw [if_pos h]

theorem answersReq_exKindOf (body : ReqBody) : exKindOf body = .dataIn ∨ exKindOf body = .dataOut ∨ exKindOf body = .status := by
  cases body <;> simp [exKindOf]

theorem not_selects_of_answersReq (h : answersReq e) : ¬ selects e := by
  unfold selects
  rcases h with h | h | h <;> simp [h]

/-- A frame is being sent with which the LONG connection, if there was one, has ended. -/
theorem linkOk_lastFrame (x : Option Answer) (hu : unserved s) (hs : settled s) (hf : framesOk e)
    (hsel : selects e → e.frame.callsForReply = false) :
    (((sendIn e s).setAnswer u x).modLnk (fun l => { l with conn := none })).linkOk :=
  linkOk_setAnswer (u := u) (s := sendIn e (s.modLnk (fun l => { l with conn := none }))) x
    (linkOk_sendIn_unserved hu hs rfl hf hsel)

/-- A REQ is served over the connection of its unit; where its context is not CONNECTED the unit is abandoned. -/
theorem linkOk_serveOrder (body : ReqBody) (tries : Nat) (corrupt : Bool) (opener : Option GrantKind)
    (ho : servesOnly u s) (hs : settled s)
    (hconn : (s.ctx u).state = .connected → s.lnk.conn = some u ∨ s.lnk.conn = none ∧ opener = some .poll) :
    (serveOrder u body tries corrupt opener s).linkOk := by
  have hs1 : settled (serveReq u body s).1 := settled_congr hs (serveReq_dsc u body s) (serveReq_lnk u body s)
  have ho1 : servesOnly u (serveReq u body s).1 := servesOnly_congr ho fun v hv => serveReq_state_of_ne body hv
  have hsend : ∀ e : Exchange, (serveReq u body s).2 ≠ .tak → (serveReq u body s).2 ≠ .wrongKind → e.unit = some u →
      answersReq e → e.opener = opener → e.more = [] → (sendIn e (serveReq u body s).1).linkOk := by
    intro e ht hw hun hk hop hm
    have hc : (s.ctx u).state = .connected := by
      by_contra h
      rw [serveReq_of_not_connected body h] at hw
      exact hw rfl
    rcases serveReq_state u body s with ⟨h, -⟩ | ⟨-, hst⟩
    · exact absurd h ht
    · refine linkOk_sendIn_connected ho1 (hst.trans hc) hs1 (framesOk_of_last hm) hun ?_
      rw [serveReq_lnk]
      exact (hconn hc).imp (fun h => ⟨h, .inl hk⟩) fun h => ⟨h.1, hop.trans h.2, hk⟩
  have hreq := answersReq_exKindOf body
  unfold serveOrder
  dsimp only
  split
  · next h => exact linkOk_setAnswer _ (hsend _ (by rw [h]; exact nofun) (by rw [h]; exact nofun) rfl hreq rfl rfl)
  · next h => exact linkOk_setAnswer _ (hsend _ (by rw [h]; exact nofun) (by rw [h]; exact nofun) rfl hreq rfl rfl)
  · next h => exact hsend _ (by rw [h]; exact nofun) (by rw [h]; exact nofun) rfl hreq rfl rfl
  · next h =>
    rcases serveReq_state u body s with ⟨-, hn⟩ | ⟨hn, -⟩
    · exact linkOk_lastFrame _ (unserved_of_only ho1 hn) hs1 (framesOk_of_last rfl) fun _ => rfl
    · exact absurd h hn
  · exact linkOk_failExchange _ .protocol _ ho1 hs1

/-- What a LONG connection finds: its unit alone is served, CONNECTED exactly while the connection lasts. -/
structure LongBase (u : UnitAddr) (s : State) : Prop where
  only : servesOnly u s
  notSelecting : (s.ctx u).state ≠ .selecting
  connected : (s.ctx u).state = .connected ↔ s.lnk.conn = some u
  conn : ∀ v, s.lnk.conn = some v → v = u
  settled : settled s

theorem LongBase.unserved (h : LongBase u s) (hc : s.lnk.conn ≠ some u) : unserved s :=
  unserved_of_only h.only fun hx => hx.elim h.notSelecting fun hx => hc (h.connected.mp hx)

theorem LongBase.conn_none (h : LongBase u s) (hc : s.lnk.conn ≠ some u) : s.lnk.conn = none := by
  cases hx : s.lnk.conn with
  | none => rfl
  | some v => exact absurd (hx.trans (congrArg some (h.conn v hx))) hc

/-- A frame of a LONG connection is being sent. -/
theorem LongBase.linkOk_sendIn (h : LongBase u s) (hf : framesOk e) (hun : e.unit = some u)
    (hk : answersReq e ∨ e.kind = .request) : (sendIn e s).linkOk := by
  by_cases hc : s.lnk.conn = some u
  · exact linkOk_sendIn_connected h.only (h.connected.mpr hc) h.settled hf hun (.inl ⟨hc, hk⟩)
  · refine linkOk_sendIn_unserved (h.unserved hc) h.settled (h.conn_none hc) hf fun hsel => ?_
    rcases hk with hk | hk
    · exact absurd hsel (not_selects_of_answersReq hk)
    · rcases hsel with hx | hx <;> cases hk.symm.trans hx

theorem linkOk_longReq (mark : Bool) (body : ReqBody) (tries : Nat) (corrupt : Bool) (h : LongBase u s) :
    (longReq u mark body tries corrupt s).linkOk := by
  unfold longReq
  split
  · exact h.linkOk_sendIn (framesOk_of_last rfl) rfl (.inl (answersReq_exKindOf body))
  · exact linkOk_serveOrder body tries corrupt none h.only h.settled fun hc => .inl (h.connected.mp hc)

theorem linkOk_longFrame (failed : Nat) (corrupt : Bool) (f : UnitFrame) (h : LongBase u s) :
    (longFrame u failed corrupt f s).linkOk := by
  have hwrong : (wrongFrame (requestExchange u (.nak u) (failed + 1) corrupt) u f (abandonAnswer u none) s).linkOk :=
    linkOk_wrongFrame _ f _ h.only h.settled (by simp [selects, requestExchange])
  unfold longFrame
  dsimp only
  split
  · split
    · exact linkOk_setAnswer _ (h.linkOk_sendIn (framesOk_of_last rfl) rfl (.inr rfl))
    · exact linkOk_failExchange _ .linkFault _ h.only h.settled
  · split
    · exact linkOk_longReq _ _ _ _ h
    · exact hwrong
  all_goals exact hwrong

/-! ### Polls and recalls -/

theorem linkOk_answerStatus (st : Byte) (tries : Nat) (corrupt : Bool) (opener : GrantKind) {r : State × Bool}
    (hu : unserved r.1) (hs : settled r.1) (hc : r.1.lnk.conn = none) :
    (answerStatus u st tries corrupt opener r).linkOk :=
  linkOk_setAnswer _ (linkOk_sendIn_unserved hu hs hc (framesOk_of_last rfl) (by simp [selects, reqExchange, exKindOf]))

theorem linkOk_offerStray (v : UnitAddr) (h : s.linkOk) : (offerStray v s).linkOk :=
  linkOk_of_states h (offerStray_lnk _ _) (offerStray_dsc _ _) fun w => by rw [offerStray_ctx]

theorem linkOk_polledReq (mark : Bool) (body : ReqBody) (hu : unserved s) (hs : settled s) (hc : s.lnk.conn = none) :
    (polledReq u mark body s).linkOk := by
  have hsend : ∀ f, (sendIn (reqExchange u body 1 false (some .poll) f) s).linkOk := fun f =>
    linkOk_sendIn_unserved hu hs hc (framesOk_of_last rfl)
      fun hsel => absurd hsel (not_selects_of_answersReq (answersReq_exKindOf body))
  unfold polledReq
  dsimp only
  split
  · exact hsend _
  · split
    · exact linkOk_offerStray u (linkOk_setAnswer _ (hsend _))
    · split
      · refine linkOk_serveOrder body 1 false (some .poll) (fun v hv => ?_) ⟨hs.1, hs.2⟩ fun _ => .inr ⟨hc, rfl⟩
        rw [connect_ctx, if_neg hv]
        exact hu v
      · split
        · exact linkOk_answerStatus _ _ _ _ (unserved_congr hu fun v => by rw [takeUnsolicited_ctx])
            (settled_congr hs (takeUnsolicited_dsc _ _ _) (takeUnsolicited_lnk _ _ _)) (by rw [takeUnsolicited_lnk]; exact hc)
        · exact linkOk_setAnswer _ (hsend _)
        · exact linkOk_setAnswer _ (hsend _)

theorem linkOk_pollReply (f : UnitFrame) (hu : unserved s) (hs : settled s) (hc : s.lnk.conn = none) :
    (pollReply f s).linkOk := by
  cases f
  case req u mark body => exact linkOk_polledReq mark body hu hs hc
  all_goals exact linkOk_toOpened hu hs

end

end Sys2Proof.LinkServes
end

section
/-! PROOFS. The link invariant through the replies to an exchange, its retries and its end. -/

namespace Sys2Proof.LinkServes

open Sys2Proof.Machine Sys2Proof.Laws Sys2Proof.StepActs Sys2Proof.Segments

theorem advanceSegment_state (n : Nat) (s : State) (u v : UnitAddr) :
    ((advanceSegment u n s).ctx v).state = (s.ctx v).state := by
  unfold advanceSegment
  by_cases hv : v = u <;> simp [hv]

/-! ### What an exchange in flight says of the contexts -/

section
variable {s t : State} {e : Exchange} {u v : UnitAddr} (h : s.linkOk) (he : s.lnk.exchange = some e)
include h he

theorem link_of_exchange : s.lnk.link = .exchange := by
  obtain ⟨-, -, -, -, h5, -⟩ := h
  exact h5.mp (by rw [he]; rfl)

/-- A LONG connection is of the unit of the exchange in flight, which is none but one of a connection. -/
theorem unit_of_conn (hc : s.lnk.conn = some v) : e.unit = some v ∧ (answersReq e ∨ e.kind = .request) := by
  have hlink := link_of_exchange h he
  obtain ⟨-, -, -, h4, -⟩ := h
  obtain ⟨-, hl | ⟨-, x, hx, hu, hk⟩⟩ := h4 v hc
  · rw [hl] at hlink; cases hlink
  · cases he.symm.trans hx
    refine ⟨hu, ?_⟩
    rcases hk with hk | hk | hk | hk
    · exact .inl (.inl hk)
    · exact .inl (.inr (.inl hk))
    · exact .inl (.inr (.inr hk))
    · exact .inr hk

/-- A context in SELECTING has its selection in flight. -/
theorem selects_of_selecting (hs : (s.ctx v).state = .selecting) :
    s.lnk.conn = none ∧ e.unit = some v ∧ selects e ∧ e.frame.callsForReply = true ∧ e.more = [] := by
  obtain ⟨h1, -⟩ := h
  obtain ⟨-, hc, x, hx, hu, hk, hcall, hm⟩ := h1 v hs
  cases he.symm.trans hx
  exact ⟨hc, hu, hk, hcall, hm⟩

/-- A context in CONNECTED has the LONG connection, or the exchange that a POLL opened. -/
theorem conn_or_polled_of_connected (hs : (s.ctx v).state = .connected) : s.lnk.conn = some v ∨
    s.lnk.conn = none ∧ e.unit = some v ∧ e.opener = some .poll ∧ answersReq e := by
  obtain ⟨-, -, h3, -⟩ := h
  rcases h3 v hs with hc | ⟨-, hc, x, hx, hu, hop, hk⟩
  · exact .inl hc
  · cases he.symm.trans hx
    exact .inr ⟨hc, hu, hop, hk⟩

/-- The link serves no context but that of the exchange's unit. -/
theorem unit_of_served (hs : isServed (s.ctx v)) : e.unit = some v := by
  rcases hs with hs | hs
  · exact (selects_of_selecting h he hs).2.1
  · rcases conn_or_polled_of_connected h he hs with hc | ⟨-, hu, -⟩
    · exact (unit_of_conn h he hc).1
    · exact hu

theorem servesOnly_of_unit (hu : e.unit = some u) : servesOnly u s := fun _ hv hs =>
  hv (Option.some.inj ((unit_of_served h he hs).symm.trans hu))

theorem unserved_of_no_unit (hu : e.unit = none) : unserved s := fun _ hs => by
  cases hu.symm.trans (unit_of_served h he hs)

/-- An exchange of a poll or a recall serves no context. -/
theorem unserved_of_kind (hs : ¬ selects e) (ha : ¬ answersReq e) (hr : e.kind ≠ .request) :
    unserved s ∧ s.lnk.conn = none := by
  have hc : ∀ v, s.lnk.conn ≠ some v := fun v hv => (unit_of_conn h he hv).2.elim ha hr
  refine ⟨fun v hv => ?_, Option.eq_none_iff_forall_ne_some.mpr hc⟩
  rcases hv with hv | hv
  · exact hs (selects_of_selecting h he hv).2.2.1
  · rcases conn_or_polled_of_connected h he hv with hx | ⟨-, -, -, hx⟩
    · exact hc v hx
    · exact ha hx

/-- A selection that calls for its reply has its unit's context in SELECTING, and there is no connection. -/
theorem selecting_of_selects (hk : selects e) (hcall : e.frame.callsForReply = true) (hu : e.unit = some u) :
    (s.ctx u).state = .selecting ∧ s.lnk.conn = none := by
  have hst : (s.ctx u).state = .selecting := by
    obtain ⟨-, h2, -⟩ := h
    obtain ⟨v, hv, hst⟩ := h2 e he hk hcall
    cases hu.symm.trans hv
    exact hst
  exact ⟨hst, (selects_of_selecting h he hst).1⟩

theorem framesOk_of_linkOk : framesOk e := by
  obtain ⟨-, -, -, -, -, ⟨-, -, hf⟩, -⟩ := h
  exact hf e he

/-! ### The same frame again, and the end of the exchange -/

/-- The exchange in flight goes on, as one of the same kind, unit and opener. -/
theorem linkOk_goesOn {e' : Exchange} {g : Lnk → Lnk} (hp : phaseOk (s.modLnk g)) (hlink : (g s.lnk).link = .exchange)
    (hconn : (g s.lnk).conn = s.lnk.conn) (hex : (g s.lnk).exchange = some e') (hk : e'.kind = e.kind)
    (hu : e'.unit = e.unit) (ho : e'.opener = e.opener)
    (hcall : e'.frame.callsForReply = true → e.frame.callsForReply = true)
    (hsel : ∀ v, (s.ctx v).state = .selecting → e'.frame.callsForReply = true ∧ e'.more = [])
    (hlisten : (s.modLnk g).listensOk) : (s.modLnk g).linkOk := by
  have hold := link_of_exchange h he
  refine ⟨fun v hv => ?_, fun x hx hxk hxc => ?_, fun v hv => ?_, fun v hv => ?_, ?_, hlisten, hp⟩
  · obtain ⟨a1, a2, a3, -⟩ := selects_of_selecting h he hv
    obtain ⟨b1, b2⟩ := hsel v hv
    refine ⟨hlink, hconn.trans a1, e', hex, hu.trans a2, ?_, b1, b2⟩
    rw [hk]; exact a3
  · cases hex.symm.trans hx
    rw [hk] at hxk
    obtain ⟨-, h2, -⟩ := h
    obtain ⟨v, hv, hst⟩ := h2 e he hxk (hcall hxc)
    exact ⟨v, hu.trans hv, hst⟩
  · rcases conn_or_polled_of_connected h he hv with hc | ⟨a1, a2, a3, a4⟩
    · exact .inl (hconn.trans hc)
    · refine .inr ⟨hlink, hconn.trans a1, e', hex, hu.trans a2, ho.trans a3, ?_⟩
      rw [hk]; exact a4
  · obtain ⟨-, -, -, h4, -⟩ := h
    obtain ⟨hst, hl | ⟨-, x, hx, a1, a2⟩⟩ := h4 v (hconn.symm.trans hv)
    · rw [hl] at hold; cases hold
    · cases he.symm.trans hx
      refine ⟨hst, .inr ⟨hlink, e', hex, hu.trans a1, ?_⟩⟩
      rw [hk]; exact a2
  · exact iff_of_true (by rw [lnk_modLnk, hex]; rfl) hlink

/-- The frame of the exchange in flight is sent again. -/
theorem linkOk_resend {e' : Exchange} (hs : settled s) (hk : e'.kind = e.kind) (hu : e'.unit = e.unit)
    (hf : e'.frame = e.frame) (hm : e'.more = e.more) (ho : e'.opener = e.opener) : (sendIn e' s).linkOk := by
  have hframes := framesOk_of_linkOk h he
  refine linkOk_goesOn h he (phaseOk_of_settled hs) rfl rfl rfl hk hu ho (fun hx => hf ▸ hx) (fun v hv => ?_)
    ⟨?_, fun hx => absurd hx hs.2, ?_⟩
  · obtain ⟨-, -, -, a4, a5⟩ := selects_of_selecting h he hv
    exact ⟨by rw [← a4, ← hf], hm.trans a5⟩
  · rintro (hx | hx | hx)
    · cases hx
    · cases hx
    · exact absurd hx hs.2
  · rintro _ ⟨⟩
    exact ⟨hm ▸ hframes.1, fun hne => hf ▸ hframes.2 (hm ▸ hne)⟩

/-- The exchange ends: to HOLD for its LONG connection, else to OPEN with its context DISCONNECTED (R70, R97). -/
theorem linkOk_endExchange (hs : settled s) (hn : ∀ v, (s.ctx v).state ≠ .selecting) : (endExchange e s).linkOk := by
  unfold endExchange
  split
  · next u hc =>
    have hconn : (s.ctx u).state = .connected := by
      obtain ⟨-, -, -, h4, -⟩ := h
      exact (h4 u hc).1
    exact linkOk_toHold (servesOnly_of_unit h he (unit_of_conn h he hc).1) hconn hs hc
  · next hc =>
    dsimp only
    split
    · next hu => exact linkOk_toOpened (unserved_of_no_unit h he hu) hs
    · next u hu =>
      have hlink : ∀ {t : State}, t.lnk = (toOpened s).lnk → t.dsc = s.dsc → unserved t → t.linkOk := by
        intro t hl hd hu
        refine linkOk_of_free hu (by rw [hl]; rfl) (by rw [hl]; rfl) (by rw [hl]; exact nofun) (by rw [hl]; rfl)
          (by rw [hl]; rfl) (by rw [hl]; exact hs.2) fun hp => absurd hs.1 (hd ▸ hp)
      split
      · next hop =>
        have hfree : unserved s := fun v hv => by
          rcases hv with hv | hv
          · exact hn v hv
          · rcases conn_or_polled_of_connected h he hv with hx | ⟨-, -, hx, -⟩
            · rw [hc] at hx; cases hx
            · cases hop.symm.trans hx
        exact hlink (recallOver_lnk _ _) (recallOver_dsc _ _) (unserved_congr hfree fun v => by
          rw [recallOver_state, toOpened_ctx])
      · refine hlink (exchangeOver_lnk _ _) (exchangeOver_dsc _ _) ?_
        exact exchangeOver_servesOnly (s := toOpened s)
          (servesOnly_congr (servesOnly_of_unit h he hu) fun v _ => by rw [toOpened_ctx]) (by rw [toOpened_ctx]; exact hn u)

/-- A failed try: the frame goes out again, or the exchange ends without its order (R73). -/
theorem linkOk_retryOrEnd {e' : Exchange} (hs : settled s) (hk : e'.kind = e.kind)
    (hu : e'.unit = e.unit) (hf : e'.frame = e.frame) (hm : e'.more = e.more) (ho : e'.opener = e.opener) :
    (retryOrEnd e' s).linkOk := by
  have hagain : (tryAgain e' s).linkOk := linkOk_resend h he hs hk hu hf hm ho
  have honly : ∀ u, e'.unit = some u → servesOnly u s := fun u hx => servesOnly_of_unit h he (hu.symm.trans hx)
  have hsel : ∀ u, e'.unit = some u → (if e'.tries < Config.maxTries then tryAgain e' s
      else if e'.corrupt then failExchange e' u .linkFault (abandonAnswer u none) s
      else toOpened (failOrder u .noUnit s)).linkOk := by
    intro u hx
    split
    · exact hagain
    · split
      · exact linkOk_failExchange _ .linkFault _ (honly u hx) hs
      · exact linkOk_toOpened (failOrder_servesOnly .noUnit (honly u hx)) (settled_congr hs (by simp) (by simp))
  unfold retryOrEnd
  split
  · next hx => exact hsel _ hx
  · next hx => exact hsel _ hx
  · next u hkind hx =>
    split
    · exact hagain
    · rw [hk] at hkind
      obtain ⟨hfree, -⟩ := unserved_of_kind h he (by simp [selects, hkind]) (by simp [answersReq, hkind]) (by simp [hkind])
      have hopen : (toOpened (recallFailed u false s)).linkOk :=
        linkOk_toOpened (recallFailed_unserved false hfree)
          (settled_congr hs (by simp [recallFailed]) (recallFailed_lnk u false s))
      exact linkOk_of_states hopen (recallOver_lnk _ _) (recallOver_dsc _ _) fun v => recallOver_state
  · next hx =>
    split
    · exact hagain
    · exact linkOk_failExchange _ .linkFault _ (honly _ hx) hs
  · next hx =>
    split
    · exact hagain
    · exact linkOk_failExchange _ .linkFault _ (honly _ hx) hs
  · next hkind =>
    rw [hk] at hkind
    obtain ⟨hfree, -⟩ := unserved_of_kind h he (by simp [selects, hkind]) (by simp [answersReq, hkind]) (by simp [hkind])
    exact linkOk_toOpened hfree hs
  · exact h
  · exact h
  · next hx _ _ _ => exact linkOk_toOpened (unserved_of_no_unit h he (hu.symm.trans hx)) hs

theorem linkOk_failedTry (corrupt : Bool) (hs : settled s) :
    (failedTry e corrupt s).linkOk :=
  linkOk_retryOrEnd (e' := e.noting corrupt) h he hs rfl rfl rfl rfl rfl

/-! ### Replies -/

theorem linkOk_selectionReply (f : UnitFrame) (hs : settled s) (hcall : e.frame.callsForReply = true) (hk : selects e)
    (hu : e.unit = some u) : (selectionReply e u f s).linkOk := by
  have honly := servesOnly_of_unit h he hu
  obtain ⟨hst, -⟩ := selecting_of_selects h he hk hcall hu
  have hwrong : (failExchange e u .protocol (abandonAnswer u (reqFrom u f)) s).linkOk :=
    linkOk_failExchange e .protocol _ honly hs
  unfold selectionReply
  split
  · exact linkOk_failedTry h he true hs
  · split
    · split
      · split
        · next hm =>
          obtain ⟨ho, hc⟩ := selectionAccepted_long honly hst hm
          exact linkOk_toHold (s := (selectionAccepted u s).modLnk (fun l => { l with conn := some u })) ho hc
            ⟨by simpa using hs.1, by simpa using hs.2⟩ rfl
        · next hm =>
          rcases selectionAccepted_short honly hm with hx | hx
          · exact linkOk_toOpened hx (settled_congr hs (by simp) (by simp))
          · exact absurd hst hx
      · exact linkOk_toOpened (selectionRefused_servesOnly _ honly hst) (settled_congr hs (by simp) (by simp))
    · exact hwrong
  all_goals exact hwrong

theorem linkOk_haltSelectionReply (f : UnitFrame) (hs : settled s) (hcall : e.frame.callsForReply = true) (hk : selects e)
    (hu : e.unit = some u) : (haltSelectionReply e u f s).linkOk := by
  have honly := servesOnly_of_unit h he hu
  obtain ⟨hst, -⟩ := selecting_of_selects h he hk hcall hu
  have hwrong : (failExchange e u .protocol (abandonAnswer u (reqFrom u f)) s).linkOk :=
    linkOk_failExchange e .protocol _ honly hs
  unfold haltSelectionReply
  split
  · exact linkOk_failedTry h he true hs
  · split
    · exact linkOk_toOpened (haltSelectionAnswered_servesOnly _ honly hst) (settled_congr hs (by simp) (by simp))
    · exact hwrong
  all_goals exact hwrong

theorem linkOk_recallReply (f : UnitFrame) (hs : settled s) (hk : e.kind = .recall) :
    (recallReply e u f s).linkOk := by
  obtain ⟨hfree, hc⟩ := unserved_of_kind h he (by simp [selects, hk]) (by simp [answersReq, hk]) (by simp [hk])
  have hwrong : (recallWrong e u f s).linkOk :=
    linkOk_sendAbandon e _ (recallFailed_unserved true hfree)
      (settled_congr hs (by unfold recallFailed; dsimp only; split <;> simp) (recallFailed_lnk u true s))
  unfold recallReply
  split
  · exact linkOk_failedTry h he true hs
  · split
    · split
      · exact linkOk_sendIn_unserved hfree hs hc (framesOk_of_last rfl) (by simp [selects, reqExchange, exKindOf])
      · exact linkOk_answerStatus _ _ _ _ (unserved_congr hfree fun v => by rw [takeDeferred_ctx])
          (settled_congr hs (takeDeferred_dsc _ _ _) (takeDeferred_lnk _ _ _)) (by rw [takeDeferred_lnk]; exact hc)
    · exact hwrong
  all_goals exact hwrong

theorem linkOk_datReply (f : UnitFrame) (hs : settled s) (hk : e.kind = .dataOut)
    (hu : e.unit = some u) : (datReply e u f s).linkOk := by
  have hnot : ¬ selects e := by simp [selects, hk]
  have hwrong : (wrongFrame e u f none s).linkOk := linkOk_wrongFrame e f none (servesOnly_of_unit h he hu) hs hnot
  unfold datReply
  split
  · exact linkOk_failedTry h he true hs
  · split
    · have hadv : (advanceSegment u e.datLength s).linkOk :=
        linkOk_of_states h (advanceSegment_lnk _ _ _) (advanceSegment_dsc _ _ _) fun v => advanceSegment_state _ s u v
      refine linkOk_endExchange (linkOk_setAnswer none hadv) (by simpa using he)
        ⟨by simpa using hs.1, by simpa using hs.2⟩ fun v hv => ?_
      rw [setAnswer_ctx, advanceSegment_state] at hv
      exact hnot (selects_of_selecting h he hv).2.2.1
    · exact hwrong
  · split
    · exact linkOk_failedTry h he false hs
    · exact hwrong
  all_goals exact hwrong

theorem longBase_of_request (hs : settled s) (hk : e.kind = .request) (hu : e.unit = some u) : LongBase u s := by
  refine ⟨servesOnly_of_unit h he hu, fun hx => ?_, ⟨fun hx => ?_, fun hc => ?_⟩, fun v hc => ?_, hs⟩
  · have := (selects_of_selecting h he hx).2.2.1
    simp [selects, hk] at this
  · rcases conn_or_polled_of_connected h he hx with hc | ⟨-, -, -, ha⟩
    · exact hc
    · simp [answersReq, hk] at ha
  · obtain ⟨-, -, -, h4, -⟩ := h
    exact (h4 u hc).1
  · exact Option.some.inj ((unit_of_conn h he hc).1.symm.trans hu)

end

/-! ### Every reply -/

section
variable {s : State}

theorem longBase_of_hold {u : UnitAddr} (h : s.linkOk) (hs : settled s) (hl : s.lnk.link = .hold)
    (hc : s.lnk.conn = some u) : LongBase u s := by
  obtain ⟨h1, -, h3, h4, -⟩ := h
  have hsel : ∀ v, (s.ctx v).state ≠ .selecting := fun v hv => by
    have := (h1 v hv).1
    rw [hl] at this; cases this
  have hconn : ∀ v, (s.ctx v).state = .connected → s.lnk.conn = some v := fun v hv => by
    rcases h3 v hv with hx | ⟨hx, -⟩
    · exact hx
    · rw [hl] at hx; cases hx
  have huniq : ∀ v, s.lnk.conn = some v → v = u := fun v hv => Option.some.inj (hv.symm.trans hc)
  refine ⟨fun v hv hx => ?_, hsel u, ⟨hconn u, fun hx => (h4 u hx).1⟩, huniq, hs⟩
  rcases hx with hx | hx
  · exact hsel v hx
  · exact hv (huniq v (hconn v hx))

theorem linkOk_awaitedFrame (f : UnitFrame) (h : s.linkOk) (hs : settled s)
    (hlisten : s.lnk.link = .hold ∨ ∃ e ∈ s.lnk.exchange, e.frame.callsForReply = true) : (awaitedFrame f s).linkOk := by
  unfold awaitedFrame
  split
  · next hl hc => exact linkOk_longFrame 0 false f (longBase_of_hold h hs hl hc)
  · next _ e hl he =>
    have hcall : e.frame.callsForReply = true := by
      rcases hlisten with hx | ⟨x, hx, hcall⟩
      · rw [hl] at hx; cases hx
      · cases he.symm.trans hx
        exact hcall
    split
    · next hk hu => exact linkOk_selectionReply h he f hs hcall (.inl hk) hu
    · next hk hu => exact linkOk_haltSelectionReply h he f hs hcall (.inr hk) hu
    · next hk =>
      obtain ⟨hfree, hc⟩ := unserved_of_kind h he (by simp [selects, hk]) (by simp [answersReq, hk]) (by simp [hk])
      exact linkOk_pollReply f hfree hs hc
    · next hk _ => exact linkOk_recallReply h he f hs hk
    · next hk hu => exact linkOk_datReply h he f hs hk hu
    · next hk hu => exact linkOk_longFrame _ _ f (longBase_of_request h he hs hk hu)
    · exact h
  · exact h

end

end Sys2Proof.LinkServes
end

section
/-! PROOFS. Every row keeps the link invariant. -/

namespace Sys2Proof.LinkServes

open Sys2Proof.Machine Sys2Proof.Laws Sys2Proof.StepActs Sys2Proof.PortClear Sys2Proof.Segments

section
variable {D : Scope} {s t : State} {u : UnitAddr}

/-! ### A link that serves nobody -/

/-- In HOLD or in an exchange no reset is in progress. -/
theorem phase_none (h : s.linkOk) (hl : s.lnk.link ≠ .inBreak) : s.dsc.phase = .none := by
  obtain ⟨-, -, -, -, -, -, hp⟩ := h
  by_contra hx
  exact hl (hp hx).2.2.1

/-- The link serves nobody and LNK listens for nothing. -/
structure Free (s : State) : Prop where
  unserved : unserved s
  conn : s.lnk.conn = none
  exchange : s.lnk.exchange = none
  replyTimer : s.lnk.replyTimer.runs = false
  gapTimer : s.lnk.gapTimer.runs = false
  reception : s.lnk.reception ≠ .awaited

theorem free_of_link (h : s.linkOk) (hh : s.lnk.link ≠ .hold) (he : s.lnk.link ≠ .exchange) : Free s := by
  obtain ⟨h1, -, h3, h4, h5, ⟨h6, -⟩, -⟩ := h
  have hex : s.lnk.exchange = none := Option.not_isSome_iff_eq_none.mp fun hx => he (h5.mp hx)
  have hconn : ∀ v, s.lnk.conn ≠ some v := fun v hv => (h4 v hv).2.elim hh fun hx => he hx.1
  have hlisten : ¬ (s.lnk.replyTimer.runs = true ∨ s.lnk.gapTimer.runs = true ∨ s.lnk.reception = .awaited) := fun hx => by
    rcases h6 hx with hx | ⟨e, hx, -⟩
    · exact hh hx
    · cases hex.symm.trans hx
  refine ⟨fun v hv => ?_, Option.eq_none_iff_forall_ne_some.mpr hconn, hex,
    Bool.eq_false_iff.mpr fun hx => hlisten (.inl hx), Bool.eq_false_iff.mpr fun hx => hlisten (.inr (.inl hx)),
    fun hx => hlisten (.inr (.inr hx))⟩
  rcases hv with hv | hv
  · exact he (h1 v hv).1
  · exact (h3 v hv).elim (hconn v) fun hx => he hx.1

theorem linkOk_of_frees (h : Free s) (hu : ∀ v, (t.ctx v).state = (s.ctx v).state) (hc : t.lnk.conn = none)
    (he : t.lnk.exchange = none) (hl : t.lnk.link ≠ .exchange) (hr : t.lnk.replyTimer = s.lnk.replyTimer)
    (hg : t.lnk.gapTimer = s.lnk.gapTimer) (ha : t.lnk.reception = s.lnk.reception) (hp : phaseOk t) : t.linkOk :=
  linkOk_of_free (unserved_congr h.unserved hu) hc he hl (by rw [hr]; exact h.replyTimer) (by rw [hg]; exact h.gapTimer)
    (by rw [ha]; exact h.reception) hp

/-- The link-reset condition serves nobody. -/
theorem linkOk_beginLinkReset (hu : unserved t) (hl : t.lnk = (beginLinkReset s).lnk) (hp : t.dsc.phase = .none) : t.linkOk :=
  linkOk_of_free hu (by rw [hl]; rfl) (by rw [hl]; rfl) (by rw [hl]; exact nofun) (by rw [hl]; rfl) (by rw [hl]; rfl)
    (by rw [hl]; exact nofun) fun hx => absurd hp hx

theorem unserved_of_idle (h : ∀ v, s.ctx v = {}) : unserved s := fun v => by rw [h v]; simp [isServed]

/-! ### The acts of a port -/

/-- An act that leaves LNK alone takes a context neither to the link's service nor out of it. -/
theorem Quiet.state_cases (h : Quiet D s t) (hs : s.contextsOk) (v : UnitAddr) :
    (t.ctx v).state = (s.ctx v).state ∨ ¬ isServed (t.ctx v) ∧ ¬ isServed (s.ctx v) := by
  have hidle : ¬ isServed {} := by simp [isServed]
  have hheld : ∀ {c : Context}, c.state = .held → ¬ isServed c := fun h hx => hx.elim (by simp [h]) (by simp [h])
  cases h
  case remove p _ =>
    unfold removeHead
    cases hl : s.heldList p with
    | nil => exact .inl (by simp [refill, hl])
    | cons u us =>
      obtain ⟨-, -, -, -, -, -, h7, -⟩ := hs
      have hu : (s.ctx u).state = .held := (((h7 p).2 u).mp (by simp [hl])).1
      obtain ⟨x, hx, hx'⟩ := refill_of_held (s := s.setQueue p (s.queue p).tail) (p := p) (u := u) (us := us) (by simpa using hl)
      have hctx : x.ctx v = s.ctx v := by rcases hx' with ⟨-, rfl⟩ | ⟨r, -, rfl⟩ <;> simp
      rw [hx, goIdle_ctx, hctx]
      by_cases hv : v = u
      · subst hv; exact .inr ⟨by simpa using hidle, hheld hu⟩
      · exact .inl (by simp [hv])
  case tag tg qs _ => exact .inl (by rw [State.ctx, (tagPages_rest s tg qs).2.2.1]; rfl)
  case write a bs => exact .inl (by simp)
  case ctx u f h hserved =>
    refine .inl ?_
    by_cases hv : v = u
    · subst hv; simpa using hserved
    · simp [hv]
  case current u p a n _ _ _ _ =>
    refine .inl ?_
    by_cases hv : v = u <;> simp [hv]
  case start p u d a jumps _ hi _ =>
    by_cases hv : v = u
    · subst hv; exact .inr ⟨by simp [queueStart, isServed], by simp [isServed, hi]⟩
    · exact .inl (by simp [queueStart, hv])
  case halt u cause _ => exact .inl (haltOnLink_state cause)
  case finishQueued u n f hq _ =>
    by_cases hv : v = u
    · subst hv; exact .inr ⟨not_served_of_ended (endOrder_inProgress _), by simp [isServed, hq]⟩
    · exact .inl (by rw [endOrder_ctx_of_ne _ hv]; simp [hv])
  case adoptHeld y u hu _ =>
    by_cases hv : v = u
    · subst hv
      refine .inr ⟨?_, hheld hu⟩
      rcases adoptHeld_ctx_cases s y v v with h | h
      · rw [h]; exact hidle
      · rw [h]; exact hheld hu
    · refine .inl ?_
      unfold adoptHeld
      dsimp only
      (repeat' split) <;> simp [hv]
  case clearPort p =>
    rw [clearPort_ctx]
    split
    · rcases state_cases (s.ctx v) with h | h | h | h
      · exact .inl (by rw [cleared_of_idle h])
      · rw [cleared_of_dropped (.inl h)]; exact .inr ⟨hidle, by simp [isServed, h]⟩
      · rw [cleared_of_dropped (.inr h)]; exact .inr ⟨hidle, hheld h⟩
      · exact .inl (by rw [cleared_of_onLink h]; rfl)
    · exact .inl rfl
  all_goals exact .inl rfl

theorem Quiet.keeps_phaseOk (h : Quiet D s t) (hs : phaseOk s) : phaseOk t := by
  have hl := Quiet.lnk_eq h
  unfold phaseOk at hs ⊢
  rw [hl]
  cases h
  case dsc f _ hp =>
    intro hx
    obtain ⟨h1, h2⟩ := hp hx
    obtain ⟨a1, a2, a3, a4⟩ := hs h1
    obtain ⟨b1, b2⟩ := h2 ⟨a1, a2⟩
    exact ⟨b1, b2, a3, a4⟩
  case clearPort p => rw [clearPort_dsc]; exact hs
  case adoptHeld y u _ _ => rw [adoptHeld_dsc]; exact hs
  case tag tg qs _ => rw [(tagPages_rest s tg qs).2.2.2.1]; exact hs
  case current => simpa [replaceSegment] using hs
  case start => simpa [queueStart] using hs
  all_goals simpa using hs

theorem Quiet.keeps_linkOk (h : Quiet D s t) (hc : s.contextsOk) (hs : s.linkOk) : t.linkOk := by
  have hp : phaseOk s := by
    obtain ⟨-, -, -, -, -, -, hp⟩ := hs
    exact hp
  refine linkOk_congr hs (Quiet.lnk_eq h) (Quiet.keeps_phaseOk h hp) (fun v => ?_) fun v => ?_
  all_goals rcases Quiet.state_cases h hc v with hx | ⟨hx, hy⟩
  · rw [hx]
  · exact iff_of_false (fun h => hx (.inl h)) fun h => hy (.inl h)
  · rw [hx]
  · exact iff_of_false (fun h => hx (.inr h)) fun h => hy (.inr h)

theorem linkResetSteps_unserved (s : State) : unserved (linkResetSteps s) := by
  intro v
  have h := foldl_failOrder_inProgress .linkReset allUnits (beginLinkReset s) allUnits_nodup v
  rw [if_pos (mem_allUnits v)] at h
  refine not_served_of_ended ?_
  unfold linkResetSteps
  simp only [offerBoth_ctx, setDeferred_ctx, modStopQ_ctx, modSelectQ_ctx]
  exact h

theorem linkResetSteps_dsc (s : State) : (linkResetSteps s).dsc = s.dsc := by
  unfold linkResetSteps
  simp only [offerBoth_dsc, setDeferred_dsc, modStopQ_dsc, modSelectQ_dsc]
  exact foldl_keeps (fun s u => linkResetContext u s) State.dsc (fun s u => by simp [linkResetContext]) allUnits _

theorem takeAgreedReset_unserved (s : State) : unserved (takeAgreedReset s) :=
  unserved_of_idle fun v => resetBlocks_ctx .part s v

theorem PortActs.keeps_linkOk (h : PortActs D s t) (hc : s.contextsOk) (hs : s.linkOk) : t.linkOk := by
  induction h with
  | refl => exact hs
  | tail hsx hxy ih =>
    have hcx := (PortActs.acts hsx).keeps (P := State.contextsOk) (fun _ _ h => h.keeps_contextsOk) hc
    cases hxy
    case quiet h => exact Quiet.keeps_linkOk h hcx ih
    case linkReset hp =>
      refine linkOk_beginLinkReset (linkResetSteps_unserved _) (linkResetSteps_lnk _) ?_
      rw [linkResetSteps_dsc]
      obtain ⟨-, -, -, -, -, -, hx⟩ := ih
      by_contra hne
      exact hp (hx hne).1
    case agreed =>
      exact linkOk_beginLinkReset (takeAgreedReset_unserved _) (takeAgreedReset_lnk _) rfl

/-! ### Frames and timers -/

/-- LNK stops listening, or goes on as it was. -/
theorem linkOk_modLnk (h : s.linkOk) {g : Lnk → Lnk} (hl : (g s.lnk).link = s.lnk.link)
    (hc : (g s.lnk).conn = s.lnk.conn) (he : (g s.lnk).exchange = s.lnk.exchange)
    (ht : (g s.lnk).linkTimer = s.lnk.linkTimer)
    (hlisten : (g s.lnk).replyTimer.runs = true ∨ (g s.lnk).gapTimer.runs = true ∨ (g s.lnk).reception = .awaited →
      s.lnk.replyTimer.runs = true ∨ s.lnk.gapTimer.runs = true ∨ s.lnk.reception = .awaited)
    (hstand : (g s.lnk).reception = .awaited → (g s.lnk).replyTimer.runs = false ∧ (g s.lnk).gapTimer.runs = false) :
    (s.modLnk g).linkOk := by
  obtain ⟨h1, h2, h3, h4, h5, ⟨h6, -, h7⟩, h8⟩ := h
  unfold State.linkOk State.listensOk State.selectionInFlight State.polledExchange
  rw [lnk_modLnk, hl, hc, he, ht]
  exact ⟨h1, h2, h3, h4, h5, ⟨fun hx => h6 (hlisten hx), hstand, h7⟩, h8⟩

/-- LNK listens only in HOLD and in EXCHANGE. -/
theorem phase_none_of_listens (h : s.linkOk)
    (hl : s.lnk.replyTimer.runs = true ∨ s.lnk.gapTimer.runs = true ∨ s.lnk.reception = .awaited) : s.dsc.phase = .none := by
  refine phase_none h fun hb => ?_
  have hf := free_of_link h (by rw [hb]; exact nofun) (by rw [hb]; exact nofun)
  rcases hl with hx | hx | hx
  · exact absurd (hx.symm.trans hf.replyTimer) nofun
  · exact absurd (hx.symm.trans hf.gapTimer) nofun
  · exact hf.reception hx

/-- While a timer of LNK runs no frame that it waited for is being received. -/
theorem settled_of_timer (h : s.linkOk) (ht : s.lnk.replyTimer.runs = true ∨ s.lnk.gapTimer.runs = true) : settled s := by
  refine ⟨phase_none_of_listens h (ht.elim .inl fun hx => .inr (.inl hx)), fun ha => ?_⟩
  obtain ⟨-, -, -, -, -, ⟨-, h6, -⟩, -⟩ := h
  obtain ⟨a1, a2⟩ := h6 ha
  rcases ht with hx | hx
  · exact absurd (hx.symm.trans a1) nofun
  · exact absurd (hx.symm.trans a2) nofun

theorem listens_of_awaits (h : s.awaits = true) :
    s.lnk.replyTimer.runs = true ∨ s.lnk.gapTimer.runs = true ∨ s.lnk.reception = .awaited := by
  unfold State.awaits at h
  split at h
  · next hx => exact .inr (.inr hx)
  · cases h
  · rcases Bool.or_eq_true_iff.mp h with hx | hx
    · exact .inl hx
    · exact .inr (.inl hx)

theorem receiveFrame_linkOk (f : UnitFrame) (h : s.linkOk) : (receiveFrame f s).linkOk := by
  unfold receiveFrame
  split
  · next ha =>
    have hl := listens_of_awaits ha
    refine linkOk_awaitedFrame f (linkOk_modLnk h rfl rfl rfl rfl (fun hx => ?_) nofun)
      ⟨phase_none_of_listens (s := s) h hl, nofun⟩ ?_
    · rcases hx with hx | hx | hx <;> cases hx
    · obtain ⟨-, -, -, -, -, ⟨h6, -⟩, -⟩ := h
      exact h6 hl
  · refine linkOk_modLnk h rfl rfl rfl rfl (fun hx => ?_) nofun
    rcases hx with hx | hx | hx
    · exact .inl hx
    · exact .inr (.inl hx)
    · cases hx

theorem execFrameSent_linkOk (h : s.linkOk) : ∃ t, execFrameSent s = .next t ∧ t.linkOk := by
  unfold execFrameSent
  split
  · next e hl he =>
    obtain ⟨hf1, hf2⟩ := framesOk_of_linkOk h he
    have hphase : s.dsc.phase = .none := phase_none h (by rw [hl]; exact nofun)
    have hquiet : e.frame.callsForReply = false → s.lnk.replyTimer.runs = false ∧ s.lnk.gapTimer.runs = false := by
      intro hcall
      obtain ⟨-, -, -, -, -, ⟨h6, -⟩, -⟩ := h
      have hno : ¬ (s.lnk.link = .hold ∨ ∃ e ∈ s.lnk.exchange, e.frame.callsForReply = true) := by
        rintro (hx | ⟨x, hx, hxc⟩)
        · cases hl.symm.trans hx
        · cases he.symm.trans hx
          cases hcall.symm.trans hxc
      exact ⟨Bool.eq_false_iff.mpr fun hx => hno (h6 (.inl hx)), Bool.eq_false_iff.mpr fun hx => hno (h6 (.inr (.inl hx)))⟩
    split
    · next hsent =>
      have hrec : s.lnk.reception ≠ .awaited := by rw [hsent.2]; exact nofun
      split
      · next f fs hm =>
        have hcall : e.frame.callsForReply = false := hf2 (by rw [hm]; exact nofun)
        obtain ⟨hr, hg⟩ := hquiet hcall
        have hf : f.callsForReply = false := hf1 f (by simp [hm])
        refine ⟨_, rfl, linkOk_goesOn h he (fun hx => absurd hphase hx) hl rfl rfl rfl rfl rfl
          (fun hx => absurd (hx.symm.trans hf) nofun) (fun v hv => ?_) ⟨?_, fun hx => absurd hx hrec, ?_⟩⟩
        · obtain ⟨-, -, -, hx, -⟩ := selects_of_selecting h he hv
          exact absurd (hx.symm.trans hcall) nofun
        · rintro (hx | hx | hx)
          · exact absurd (hx.symm.trans hr) nofun
          · exact absurd (hx.symm.trans hg) nofun
          · exact absurd hx hrec
        · rintro _ ⟨⟩
          exact ⟨fun g hg => hf1 g (by simp [hm, hg]), fun _ => hf⟩
      · next hm =>
        split
        · next hcall =>
          refine ⟨_, rfl, linkOk_goesOn h he (fun hx => absurd hphase hx) hl rfl rfl rfl rfl rfl id (fun v hv => ⟨hcall, hm⟩)
            ⟨fun _ => .inr ⟨_, rfl, hcall⟩, fun hx => absurd hx hrec, ?_⟩⟩
          rintro _ ⟨⟩
          exact ⟨hf1, hf2⟩
        · next hcall =>
          refine ⟨_, rfl, linkOk_endExchange h he ⟨hphase, hrec⟩ fun v hv => ?_⟩
          obtain ⟨-, -, -, hx, -⟩ := selects_of_selecting h he hv
          exact hcall hx
    · exact ⟨s, rfl, h⟩
  · exact ⟨s, rfl, h⟩

theorem execFrameStart_linkOk (h : s.linkOk) : ∃ t, execFrameStart s = .next t ∧ t.linkOk := by
  unfold execFrameStart
  split
  · exact ⟨s, rfl, h⟩
  · split
    · next hr =>
      refine ⟨_, rfl, linkOk_modLnk h rfl rfl rfl rfl (fun _ => ?_) fun _ => ⟨rfl, rfl⟩⟩
      rcases Bool.or_eq_true_iff.mp hr with hx | hx
      · exact .inl hx
      · exact .inr (.inl hx)
    · split
      · exact ⟨s, rfl, h⟩
      · refine ⟨_, rfl, linkOk_modLnk h rfl rfl rfl rfl (fun hx => ?_) nofun⟩
        rcases hx with hx | hx | hx
        · exact .inl hx
        · exact .inr (.inl hx)
        · cases hx

theorem execReplyTimerExpiry_linkOk (h : s.linkOk) : ∃ t, execReplyTimerExpiry s = .next t ∧ t.linkOk := by
  unfold execReplyTimerExpiry
  split
  · next e hr he =>
    have hs := settled_of_timer h (.inl hr)
    have hstopped : (s.modLnk (fun l => { l with replyTimer := .stopped })).linkOk := by
      refine linkOk_modLnk h rfl rfl rfl rfl (fun hx => ?_) fun hx => absurd hx hs.2
      rcases hx with hx | hx
      · cases hx
      · exact .inr hx
    exact ⟨_, rfl, linkOk_failedTry hstopped he false hs⟩
  · exact ⟨s, rfl, h⟩

theorem execGapTimerExpiry_linkOk (h : s.linkOk) : ∃ t, execGapTimerExpiry s = .next t ∧ t.linkOk := by
  unfold execGapTimerExpiry
  split
  · next u hg hc =>
    have hs := settled_of_timer h (.inr hg)
    refine ⟨_, rfl, linkOk_failExchange _ .linkFault _ ?_ hs⟩
    cases he : s.lnk.exchange with
    | some e => exact servesOnly_of_unit h he (unit_of_conn h he hc).1
    | none =>
      have hold : s.lnk.link = .hold := by
        obtain ⟨-, -, -, h4, -⟩ := h
        obtain ⟨-, hx | ⟨-, e, hx, -⟩⟩ := h4 u hc
        · exact hx
        · cases he.symm.trans hx
      exact (longBase_of_hold h hs hold hc).only
  · exact ⟨s, rfl, h⟩

theorem execSilenceTimerExpiry_linkOk (u : UnitAddr) (h : s.linkOk) : ∃ t, execSilenceTimerExpiry u s = .next t ∧ t.linkOk := by
  unfold execSilenceTimerExpiry
  split
  · refine ⟨_, rfl, linkOk_of_states h (haltOnLink_lnk _ u .timeout) (haltOnLink_dsc _ u .timeout) fun v => ?_⟩
    rw [haltOnLink_state]
    by_cases hv : v = u <;> simp [hv]
  · exact ⟨s, rfl, h⟩

/-! ### Grants -/

/-- A grant is made in OPEN only, where the link serves nobody. -/
theorem free_of_grant {g : GrantKind} (h : s.linkOk) (hg : s.nextGrant = some g) : Free s ∧ settled s := by
  have ho : s.lnk.link = .opened := by
    by_contra hx
    simp [State.nextGrant, hx] at hg
  have hf := free_of_link h (by rw [ho]; exact nofun) (by rw [ho]; exact nofun)
  exact ⟨hf, phase_none h (by rw [ho]; exact nofun), hf.reception⟩

/-- A selection's grant: its context enters SELECTING and its SEL is sent. -/
theorem linkOk_selectionGrant {f : State → State} (g : GrantKind) (k : ExKind) (c : CtlFrame) (hf : Free s) (hs : settled s)
    (hk : k = .selection ∨ k = .haltSelection) (hcall : c.callsForReply = true)
    (hfl : (f s).lnk = s.lnk) (hfd : (f s).dsc = s.dsc) (hfc : ∀ v, (f s).ctx v = s.ctx v) :
    (openGrant g k (some u) c ((enterSelecting u (f s)).setAnswer u none)).linkOk := by
  refine linkOk_sendIn_selecting (u := u) (fun v hv => ?_) (by simp [enterSelecting]) ?_ ?_ hk rfl hcall rfl
  · simpa [enterSelecting, hv, hfc] using hf.unserved v
  · exact ⟨(congrArg Dsc.phase hfd).trans hs.1, fun hx => hs.2 ((congrArg Lnk.reception hfl).symm.trans hx)⟩
  · exact (congrArg Lnk.conn hfl).trans hf.conn

/-- A grant that takes no context into SELECTING. -/
theorem linkOk_openGrant (g : GrantKind) (k : ExKind) (u : Option UnitAddr) (c : CtlFrame) (hu : unserved s) (hs : settled s)
    (hc : s.lnk.conn = none) (hk : k ≠ .selection ∧ k ≠ .haltSelection) : (openGrant g k u c s).linkOk :=
  linkOk_sendIn_unserved (s := s.modLnk fun l => { l with grantMem := some g }) hu hs hc (framesOk_of_last rfl) fun hx =>
    (hx.elim hk.1 hk.2).elim

theorem execHaltSelectionGrant_linkOk (h : s.linkOk) : ∃ t, execHaltSelectionGrant s = .next t ∧ t.linkOk := by
  unfold execHaltSelectionGrant
  split
  · next u rest hg _ =>
    obtain ⟨hf, hs⟩ := free_of_grant h hg
    exact ⟨_, rfl, linkOk_selectionGrant (f := fun s => s.modStopQ (fun _ => rest)) _ _ _ hf hs (.inr rfl) rfl rfl rfl
      fun _ => rfl⟩
  · exact ⟨s, rfl, h⟩

theorem execSelectionGrant_linkOk (h : s.linkOk) : ∃ t, execSelectionGrant s = .next t ∧ t.linkOk := by
  unfold execSelectionGrant
  split
  · next u rest hg _ =>
    obtain ⟨hf, hs⟩ := free_of_grant h hg
    exact ⟨_, rfl, linkOk_selectionGrant (f := fun s => s.modSelectQ (fun _ => rest)) _ _ _ hf hs (.inl rfl) rfl rfl rfl
      fun _ => rfl⟩
  · exact ⟨s, rfl, h⟩

theorem execPollGrant_linkOk (h : s.linkOk) : ∃ t, execPollGrant s = .next t ∧ t.linkOk := by
  unfold execPollGrant
  split
  · next hg =>
    obtain ⟨hf, hs⟩ := free_of_grant h hg
    exact ⟨_, rfl, linkOk_openGrant _ _ _ _ hf.unserved hs hf.conn ⟨nofun, nofun⟩⟩
  · exact ⟨s, rfl, h⟩

theorem execRecallGrant_linkOk (h : s.linkOk) : ∃ t, execRecallGrant s = .next t ∧ t.linkOk := by
  unfold execRecallGrant
  split
  · next u hg _ =>
    obtain ⟨hf, hs⟩ := free_of_grant h hg
    refine ⟨_, rfl, linkOk_openGrant _ _ _ _ (unserved_congr hf.unserved fun v => ?_) ?_ ?_ ⟨nofun, nofun⟩⟩
    · rw [setAnswer_ctx]
      split
      · by_cases hv : v = u <;> simp [hv]
      · rfl
    · split <;> exact hs
    · split <;> exact hf.conn
  · exact ⟨s, rfl, h⟩

/-! ### Resets, start-up and loading -/

theorem resetBlocks_linkOk (cause : ResetCause) (s : State) (f : Dsc → Dsc)
    (hf : ∀ d, (f d).part = d.part ∧ (f d).load = d.load) : ((resetBlocks cause s).modDsc f).linkOk :=
  linkOk_of_free (unserved_of_idle fun v => resetBlocks_ctx cause s v) rfl rfl nofun rfl rfl nofun fun _ =>
    ⟨(hf _).1, (hf _).2, rfl, rfl⟩

/-- A reset in progress leaves the link in BREAK, serving nobody. -/
theorem free_of_phase (h : s.linkOk) (hp : s.dsc.phase ≠ .none) : Free s := by
  obtain ⟨-, -, -, -, -, -, hx⟩ := id h
  have hb := (hx hp).2.2.1
  exact free_of_link h (by rw [hb]; exact nofun) (by rw [hb]; exact nofun)

theorem captureAndStart_linkOk (x : Straps) (hu : unserved s) : (captureAndStart x s).linkOk :=
  linkOk_beginLinkReset (s := s) hu rfl rfl

/-- DSC changes otherwise than in what a reset in progress holds. -/
theorem linkOk_modDsc {f : Dsc → Dsc} (h : s.linkOk)
    (hf : (f s.dsc).phase ≠ .none → s.dsc.phase ≠ .none ∧ (f s.dsc).part = s.dsc.part ∧ (f s.dsc).load = s.dsc.load) :
    (s.modDsc f).linkOk := by
  refine linkOk_congr h rfl (fun hp => ?_) (fun _ => Iff.rfl) fun _ => Iff.rfl
  obtain ⟨-, -, -, -, -, -, hx⟩ := h
  obtain ⟨h1, h2, h3⟩ := hf hp
  obtain ⟨a1, a2, a3⟩ := hx h1
  exact ⟨h2.trans a1, h3.trans a2, a3⟩

theorem execPowerOnEnd_linkOk (x : Straps) (h : s.linkOk) : ∃ t, execPowerOnEnd x s = .next t ∧ t.linkOk := by
  unfold execPowerOnEnd
  split
  · next hp =>
    have hne : s.dsc.phase ≠ .none := by rw [hp]; exact nofun
    split
    · exact ⟨_, rfl, linkOk_modDsc h fun _ => ⟨hne, rfl, rfl⟩⟩
    · exact ⟨_, rfl, captureAndStart_linkOk x (free_of_phase h hne).unserved⟩
  · exact ⟨s, rfl, h⟩

theorem execResetAssert_linkOk (h : s.linkOk) : ∃ t, execResetAssert s = .next t ∧ t.linkOk := by
  unfold execResetAssert
  split
  · exact ⟨_, rfl, resetBlocks_linkOk .pin s _ fun _ => ⟨rfl, rfl⟩⟩
  · exact ⟨_, rfl, linkOk_modDsc h fun hp => ⟨hp, rfl, rfl⟩⟩

theorem execResetRelease_linkOk (x : Straps) (h : s.linkOk) : ∃ t, execResetRelease x s = .next t ∧ t.linkOk := by
  unfold execResetRelease
  split
  · next hp =>
    have hne : s.dsc.phase ≠ .none := by rw [hp]; exact nofun
    exact ⟨_, rfl, captureAndStart_linkOk x (s := s.modDsc _) (free_of_phase h hne).unserved⟩
  · exact ⟨_, rfl, linkOk_modDsc h fun hp => ⟨hp, rfl, rfl⟩⟩

theorem execBreakEnd_linkOk (h : s.linkOk) : ∃ t, execBreakEnd s = .next t ∧ t.linkOk := by
  unfold execBreakEnd
  split
  · next hb =>
    have hf := free_of_link h (by rw [hb.1]; exact nofun) (by rw [hb.1]; exact nofun)
    refine ⟨_, rfl, linkOk_of_frees hf (fun _ => rfl) hf.conn hf.exchange nofun rfl rfl rfl fun hp => ?_⟩
    obtain ⟨-, -, -, -, -, -, hx⟩ := h
    have ht := hb.2
    rw [(hx hp).2.2.2] at ht
    cases ht
  · exact ⟨s, rfl, h⟩

theorem settleStartUp_rest (s : State) : (settleStartUp s).lnk = s.lnk ∧ (settleStartUp s).dsc.phase = s.dsc.phase ∧
    ∀ v, (settleStartUp s).ctx v = s.ctx v := by
  unfold settleStartUp
  split <;> exact ⟨rfl, rfl, fun _ => rfl⟩

theorem execSettleEnd_linkOk (h : s.linkOk) : ∃ t, execSettleEnd s = .next t ∧ t.linkOk := by
  unfold execSettleEnd
  split
  · next hb =>
    have hf := free_of_link h (by rw [hb.1]; exact nofun) (by rw [hb.1]; exact nofun)
    have hphase : s.dsc.phase = .none := phase_none h (by rw [hb.1]; exact nofun)
    have hopen : (s.modLnk (fun l => { l with link := .opened, linkTimer := .stopped, srqSampled := l.srqLine })).linkOk :=
      linkOk_of_frees hf (fun _ => rfl) hf.conn hf.exchange nofun rfl rfl rfl fun hp => absurd hphase hp
    dsimp only
    split
    · refine ⟨_, rfl, ?_⟩
      obtain ⟨hl, hp, hc⟩ := settleStartUp_rest
        (s.modLnk (fun l => { l with link := .opened, linkTimer := .stopped, srqSampled := l.srqLine }))
      exact linkOk_congr hopen hl (fun hx => absurd (hp.trans hphase) hx) (fun v => by rw [hc v]) fun v => by rw [hc v]
    · exact ⟨_, rfl, hopen⟩
  · exact ⟨s, rfl, h⟩

theorem execLoadAttemptEnd_linkOk (image : List Byte) (hc : s.contextsOk) (h : s.linkOk) :
    ∃ t, execLoadAttemptEnd image s = .next t ∧ t.linkOk := by
  have hquiet : ∀ {t}, Quiets .moving s t → t.linkOk := fun hq => PortActs.keeps_linkOk hq.portActs hc h
  unfold execLoadAttemptEnd
  split
  · next hl _ => exact ⟨_, rfl, hquiet (loadSucceeds_quiets _ s _ (.inl hl))⟩
  · next hl _ =>
    refine ⟨_, rfl, linkOk_modDsc h fun hp => ?_⟩
    obtain ⟨-, -, -, -, -, -, hx⟩ := h
    have hn := (hx hp).2.1
    rw [hl] at hn
    cases hn
  · next hl _ => exact ⟨_, rfl, hquiet (loadSucceeds_quiets _ s _ (.inr hl))⟩
  · next hl _ => exact ⟨_, rfl, hquiet (loadFails_quiets _ s (.inr hl))⟩
  all_goals exact ⟨s, rfl, h⟩

theorem execSrqChange_linkOk (x : Bool) (h : s.linkOk) : ∃ t, execSrqChange x s = .next t ∧ t.linkOk :=
  ⟨_, rfl, linkOk_modLnk h rfl rfl rfl rfl id fun hx => by
    obtain ⟨-, -, -, -, -, ⟨-, h6, -⟩, -⟩ := h
    exact h6 hx⟩

/-! ### Every command -/

theorem exec_linkOk (c : Instr) (hc : s.contextsOk) (h : s.linkOk) : ∃ t, exec c s = .next t ∧ t.linkOk := by
  by_cases hp : isPortRow c = true
  · obtain ⟨t, he, ha⟩ := exec_portActs .moving s hp
    exact ⟨t, he, PortActs.keeps_linkOk ha hc h⟩
  cases hl : linkFrame c with
  | some f => exact ⟨_, exec_linkFrame s hl, receiveFrame_linkOk f h⟩
  | none =>
    cases c
    case powerOn => exact ⟨_, rfl, resetBlocks_linkOk .powerOn s _ fun _ => ⟨rfl, rfl⟩⟩
    case powerOnEnd x => exact execPowerOnEnd_linkOk x h
    case resetAssert => exact execResetAssert_linkOk h
    case resetRelease x => exact execResetRelease_linkOk x h
    case breakEnd => exact execBreakEnd_linkOk h
    case settleEnd => exact execSettleEnd_linkOk h
    case loadAttemptEnd image => exact execLoadAttemptEnd_linkOk image hc h
    case srqChange x => exact execSrqChange_linkOk x h
    case haltSelectionGrant => exact execHaltSelectionGrant_linkOk h
    case recallGrant => exact execRecallGrant_linkOk h
    case pollGrant => exact execPollGrant_linkOk h
    case selectionGrant => exact execSelectionGrant_linkOk h
    case frameSent => exact execFrameSent_linkOk h
    case replyTimerExpiry => exact execReplyTimerExpiry_linkOk h
    case gapTimerExpiry => exact execGapTimerExpiry_linkOk h
    case silenceTimerExpiry u => exact execSilenceTimerExpiry_linkOk u h
    case frameStart => exact execFrameStart_linkOk h
    case rsp => cases hl
    case reqInData => cases hl
    case reqOutData => cases hl
    case reqStatus => cases hl
    case reqRepeat => cases hl
    case ack => cases hl
    case nak => cases hl
    case corruptFrame => cases hl
    all_goals exact absurd rfl hp

/-- A served context is the exchange's unit, or the LONG connection's in HOLD. -/
theorem eq_of_served (h : s.linkOk) {v : UnitAddr} (hu : isServed (s.ctx u)) (hv : isServed (s.ctx v)) : u = v := by
  cases he : s.lnk.exchange with
  | some e => exact Option.some.inj ((unit_of_served h he hu).symm.trans (unit_of_served h he hv))
  | none =>
    have hconn : ∀ {w}, isServed (s.ctx w) → s.lnk.conn = some w := by
      intro w hw
      obtain ⟨h1, -, h3, -⟩ := id h
      rcases hw with hw | hw
      · obtain ⟨-, -, e, hx, -⟩ := h1 w hw
        cases he.symm.trans hx
      · rcases h3 w hw with hx | ⟨-, -, e, hx, -⟩
        · exact hx
        · cases he.symm.trans hx
    exact Option.some.inj ((hconn hu).symm.trans (hconn hv))

/-- Settles O57: each row leads the link to one of the forms in which it serves what its exchange or its LONG connection
names, and an act of a port takes no context to the link's service. -/
theorem theLinkServesAtMostOneContext : Obligations.TheLinkServesAtMostOneContext := by
  refine ⟨fun s t hc hs hstep => ?_, fun s u v h hu hv => eq_of_served h hu hv⟩
  unfold step at hstep
  split at hstep
  · cases hstep
    exact hs
  · next i rest _ =>
    obtain ⟨t', he, ht⟩ := exec_linkOk (s := { s with pending := rest }) i hc hs
    cases he.symm.trans hstep
    exact ht

end

end Sys2Proof.LinkServes
end

section
/-! PROOFS. The machine's step, the power-on values, and what the resets and the link-reset timer lead to. -/

namespace Sys2Proof.Resets

open Sys2Proof.Machine Sys2Proof.Laws Sys2Proof.StepActs Sys2Proof.PortClear Sys2Proof.Segments Sys2Proof.LinkServes

section
variable {s : State}

/-! ### The machine -/

/-- Settles O1: the two cases of `step`, a command waiting and none. -/
theorem aStepRunsTheCommandAtTheFront : Obligations.AStepRunsTheCommandAtTheFront := by
  refine ⟨fun c rest s h => ?_, fun s h => ?_⟩ <;> simp [step, h]

/-! ### The power-on values -/

theorem reset_ctx (u : UnitAddr) : State.reset.ctx u = {} := by simp [State.reset, State.ctx, Ctb.reset]

theorem reset_answer (u : UnitAddr) : State.reset.answer u = none := by simp [State.reset, State.answer, Lnk.reset]

theorem reset_page (q : PageNo) : State.reset.page q = { tag := .free, uses := 0 } := by
  simp [State.reset, State.page, pagesReset]

/-- Settles O3: every block of the power-on state, read through its accessor. -/
theorem resetHoldsThePowerOnValues : Obligations.ResetHoldsThePowerOnValues := by
  refine ⟨fun p => ?_, fun u => ⟨reset_ctx u, reset_answer u⟩, rfl, rfl, rfl, fun _ => rfl, reset_page, rfl, rfl, rfl, rfl,
    rfl, rfl, rfl, rfl, rfl, rfl, fun i => ?_, rfl, rfl, rfl⟩
  · cases p <;> exact ⟨rfl, rfl, rfl, rfl, rfl, rfl, rfl, rfl, rfl, rfl, rfl⟩
  · simp [State.reset, Dsc.reset]

theorem reset_unserved : unserved State.reset := unserved_of_idle reset_ctx

/-- Settles O60: nothing of the power-on state is in any list, queue, page's use or exchange. -/
theorem resetMeetsTheInvariants : Obligations.ResetMeetsTheInvariants := by
  have huses : ∀ q, State.reset.usersOf q = [] := fun q =>
    List.filter_eq_nil_iff.mpr fun u _ => by simp [reset_ctx, Context.segIn]
  refine ⟨rfl, fun q => ?_, fun p => ?_, ?_, ?_, ?_, fun p => ?_, List.nodup_nil, fun p => ?_⟩
  · rw [reset_page, huses]; exact ⟨rfl, fun _ => rfl⟩
  · cases p <;> exact ⟨Nat.zero_le _, nofun⟩
  · exact contextsOk_congr (contextsOk_reset .powerOn State.reset) rfl (fun _ => rfl) rfl
  · exact linkOk_of_free reset_unserved rfl rfl nofun rfl rfl nofun (phaseOk_of_settled ⟨rfl, nofun⟩)
  · exact (segmentsOk_iff _).mpr ⟨fun u => by rw [reset_ctx]; exact inPage_idle, lnkFits_of_none (answersOk_cleared rfl) rfl⟩
  · cases p <;> exact ⟨Nat.zero_le _, nofun, fun _ => ⟨rfl, rfl⟩⟩
  · cases p <;> exact fun h => absurd rfl h

/-! ### Resets -/

theorem resetBlocks_byteAt (cause : ResetCause) (a : StoreAddr) :
    (resetBlocks cause s).byteAt a = if cause = .powerOn then 0 else s.byteAt a := by
  cases cause <;> rfl

theorem resetBlocks_answer (cause : ResetCause) (u : UnitAddr) : (resetBlocks cause s).answer u = none := by
  simp [resetBlocks, State.answer, Lnk.reset]

/-- While a reset is in progress every block is held at its reset values (R153). -/
theorem resetBlocks_heldAtReset (cause : ResetCause) (f : Dsc → Dsc)
    (hf : ∀ d, (f d).part = d.part ∧ (f d).active = d.active ∧ (f d).staging = d.staging ∧ (f d).cause = d.cause ∧
      (f d).load = d.load ∧ (f d).agreed = d.agreed) : heldAtReset cause s ((resetBlocks cause s).modDsc f) := by
  obtain ⟨h1, h2, h3, h4, h5, h6⟩ := hf (resetBlocks cause s).dsc
  exact ⟨fun p => by cases p <;> exact ⟨rfl, rfl, rfl, rfl, rfl, rfl, rfl, rfl⟩, rfl, rfl, rfl, resetBlocks_byteAt cause, rfl,
    rfl, rfl, rfl, rfl, rfl, rfl, resetBlocks_answer cause, h1, h2, h3, h4, h5, h6⟩

theorem resetBlocks_atn (cause : ResetCause) (p : Port) : (resetBlocks cause s).atn p = false := by cases p <;> rfl

/-- While a reset is in progress the part drives nothing (R187). -/
theorem quiet_of_phase (h : s.dsc.phase ≠ .none) : quiet s := by
  simp [quiet, State.output, State.linkPair, State.cfgSelected, State.cfgSends, State.cfgClockHeldLow, h]

theorem startsUp_startUp {t : State} (h : ∀ p, (t.port p).chipSelect = (s.port p).chipSelect) : startsUp s (startUp t) := by
  refine ⟨rfl, rfl, rfl, fun p => ?_⟩
  rw [← h p]
  cases p <;> rfl

/-- Start-up breaks the link pair (R86, R154). -/
theorem startUp_linkPair : (startUp s).linkPair = .broken := rfl

/-- Settles O4: POWER_ON and RESET_ASSERT reset the blocks, and a reset's end captures the straps and starts up. -/
theorem powerOnAndTheResetPinResetThePart : Obligations.PowerOnAndTheResetPinResetThePart := by
  refine ⟨⟨fun s => ?_, fun s h => ?_, fun s h => if_neg h, fun s h => quiet_of_phase h⟩, fun s x h hp => ?_,
    fun s x h hp => ?_, fun s x h => ?_⟩
  · exact ⟨_, rfl, resetBlocks_heldAtReset .powerOn _ fun _ => ⟨rfl, rfl, rfl, rfl, rfl, rfl⟩, rfl, rfl,
      resetBlocks_atn (s := s) .powerOn⟩
  · exact ⟨_, if_pos h, resetBlocks_heldAtReset .pin _ fun _ => ⟨rfl, rfl, rfl, rfl, rfl, rfl⟩, rfl, rfl,
      resetBlocks_atn (s := s) .pin⟩
  · refine ⟨captureAndStart x s, ?_, startsUp_startUp fun _ => rfl, rfl, rfl, rfl, rfl, startUp_linkPair⟩
    simp [exec, execPowerOnEnd, h, hp]
  · simp [exec, execPowerOnEnd, h, hp, State.modDsc]
  · exact ⟨_, if_pos h, startsUp_startUp fun _ => rfl, rfl, rfl, rfl, rfl, rfl, startUp_linkPair⟩

/-- The agreed reset takes the reset values and starts up. -/
theorem takeAgreedReset_heldAtReset : heldAtReset .part s (takeAgreedReset s) :=
  ⟨fun p => by cases p <;> exact ⟨rfl, rfl, rfl, rfl, rfl, rfl, rfl, rfl⟩, rfl, rfl, rfl, resetBlocks_byteAt .part, rfl,
    rfl, rfl, rfl, rfl, rfl, rfl, resetBlocks_answer (s := s) .part, rfl, rfl, rfl, rfl, rfl, rfl⟩

theorem exec_agreedResetTaken (h : s.dsc.agreed ≠ none) : exec .agreedResetTaken s = .next (takeAgreedReset s) := if_neg h

/-- Settles O5: the three ways to the agreed reset all lead to `takeAgreedReset`. -/
theorem theAgreedResetIsTakenWithCausePart : Obligations.TheAgreedResetIsTakenWithCausePart := by
  refine ⟨fun s h => ?_, fun s p h hp => ⟨?_, fun b hr hc => ?_⟩⟩
  · exact ⟨_, exec_agreedResetTaken h, takeAgreedReset_heldAtReset,
      startsUp_startUp fun p => by cases p <;> rfl, rfl, rfl⟩
  · rw [exec_agreedResetTaken (by rw [modPort_dsc, h]; exact nofun)]
    simp [exec, execChipSelectDeassert, h, hp]
  · rw [exec_agreedResetTaken (by rw [h]; exact nofun)]
    simp [exec, execByteTaken, h, hp, hr, hc]

/-! ### The link-reset timer and start-up -/

theorem restartLease_of_active {x : PortIf} (h : x.state = .active) (hp : x.leasePeriod = 100) :
    x.restartLease = { x with lease := .running 1000000 } := by
  rw [PortIf.restartLease, if_pos h, hp]; rfl

/-- SETTLE ends in OPEN, with SRQ sampled. -/
theorem exec_settleEnd (h : s.lnk.link = .settle) (ht : s.lnk.linkTimer.runs = true) : exec .settleEnd s =
    (if s.dsc.part = .loading ∧ s.dsc.load = .none then
      .next (settleStartUp
        { s with lnk := { s.lnk with link := .opened, linkTimer := .stopped, srqSampled := s.lnk.srqLine } })
    else .next { s with lnk := { s.lnk with link := .opened, linkTimer := .stopped, srqSampled := s.lnk.srqLine } }) :=
  if_pos ⟨h, ht⟩

/-- Settles O6: each end of the link-reset timer, the two sources of the directory at start-up, SRQ, and the link pair. -/
theorem theLinkResetTimerLeadsToOpenAndThroughStartUp : Obligations.TheLinkResetTimerLeadsToOpenAndThroughStartUp := by
  refine ⟨⟨fun s h ht => if_pos ⟨h, ht⟩, fun s h ht hp => ?_⟩, fun s h ht hp hl => ⟨fun hm => ⟨?_, fun hx => ?_⟩, fun hm ha => ?_⟩,
    fun s x => ⟨fun hb hs => ?_, fun hb => ?_⟩, fun s hp => ⟨fun hb => ?_, fun hb => ?_⟩⟩
  · rw [exec_settleEnd h ht, if_neg fun hx => hp hx.1]
  · rw [exec_settleEnd h ht, if_pos ⟨hp, hl⟩, settleStartUp]
    simp only [hm]
    rfl
  · simp [State.cfgSelected, State.cfgSends, hx]
  · rw [exec_settleEnd h ht, if_pos ⟨hp, hl⟩, settleStartUp]
    simp only [hm]
    obtain ⟨haa, hal⟩ := ha .a
    obtain ⟨hba, hbl⟩ := ha .b
    have hports := congrArg₂ PerPort.mk (restartLease_of_active haa hal) (restartLease_of_active hba hbl)
    exact congrArg Host.Outcome.next (congrArg (fun x => { s with
      lnk := { s.lnk with link := .opened, linkTimer := .stopped, srqSampled := s.lnk.srqLine },
      dsc := { s.dsc with part := .unconfigured }, ports := x }) hports)
  · simp [exec, execSrqChange, hb, hs, State.modLnk]
  · simp [exec, execSrqChange, hb, State.modLnk]
  · simp [State.linkPair, hp, hb]
  · rcases hb with hb | hb | hb <;> simp [State.linkPair, hp, hb]

end

end Sys2Proof.Resets
end

section
/-! PROOFS. The directory image is read back as its directory, and the end of a load attempt. -/

namespace Sys2Proof.Loading

open Sys2Proof.Machine Sys2Proof.Laws Sys2Proof.DirectoryCommands

/-! ### An entry's four bytes -/

theorem modeOf_eq_some {x : Byte} {m : Mode} : modeOf x = some m ↔ x = m.byte := by
  by_cases h : x.toNat ≤ 1
  · rcases eq_zero_or_one h with rfl | rfl <;> cases m <;> decide
  · rw [modeOf_of_above (by omega)]
    refine iff_of_false nofun fun hx => h ?_
    rw [hx]
    cases m <;> decide

theorem portOf_eq_some {x : Byte} {p : Port} : portOf x = some p ↔ x = portByte p := by
  by_cases h : x.toNat ≤ 1
  · rcases eq_zero_or_one h with rfl | rfl <;> cases p <;> decide
  · rw [portOf_of_above (by omega)]
    refine iff_of_false nofun fun hx => h ?_
    rw [hx]
    cases p <;> decide

theorem unitOf_eq_some {x : Byte} {u : UnitAddr} : unitOf x = some u ↔ x = unitByte u := by
  have hu := u.isLt
  unfold unitOf
  split
  · next h =>
    rw [Option.some_inj, ← Fin.val_inj, ← BitVec.toNat_inj]
    simp [unitByte, Nat.mod_eq_of_lt (show u.val < 256 by omega)]
  · next h =>
    refine iff_of_false nofun fun hx => h ?_
    rw [hx]
    simp [unitByte, Nat.mod_eq_of_lt (show u.val < 256 by omega)]

/-- Four bytes decode to an entry exactly when they are its bytes (11.5). -/
theorem dirEntryOf_eq_some {u m h l : Byte} {e : DirEntry} : dirEntryOf u m h l = some e ↔ [u, m, h, l] = e.bytes := by
  obtain ⟨unit, mode, home, silence⟩ := e
  have hfields : [u, m, h, l] = DirEntry.bytes ⟨unit, mode, home, silence⟩ ↔
      unitOf u = some unit ∧ modeOf m = some mode ∧ portOf h = some home ∧ l = silence := by
    rw [unitOf_eq_some, modeOf_eq_some, portOf_eq_some]
    simp [DirEntry.bytes]
  rw [hfields]
  unfold dirEntryOf
  cases unitOf u <;> cases modeOf m <;> cases portOf h <;> simp

/-! ### The entries of an image -/

theorem flatMap_bytes_length (es : List DirEntry) : (es.flatMap DirEntry.bytes).length = 4 * es.length := by
  induction es with
  | nil => rfl
  | cons e es ih => simp [ih, DirEntry.bytes]; omega

theorem imageEntries_of_bytes (es : List DirEntry) (rest : List Byte) :
    imageEntries es.length (es.flatMap DirEntry.bytes ++ rest) = some es := by
  induction es with
  | nil => rfl
  | cons e es ih =>
    have he : dirEntryOf (unitByte e.unit) e.mode.byte (portByte e.home) e.silence = some e := dirEntryOf_eq_some.mpr rfl
    simp [DirEntry.bytes, imageEntries, he, ih]

theorem bytes_of_imageEntries {n : Nat} {bs : List Byte} {es : List DirEntry} (h : imageEntries n bs = some es) :
    es.length = n ∧ ∃ rest, bs = es.flatMap DirEntry.bytes ++ rest := by
  induction n generalizing bs es with
  | zero => cases h; exact ⟨rfl, bs, rfl⟩
  | succ n ih =>
    rcases bs with _ | ⟨u, _ | ⟨m, _ | ⟨x, _ | ⟨l, rest⟩⟩⟩⟩
    · cases h
    · cases h
    · cases h
    · cases h
    · rw [imageEntries] at h
      split at h
      · next e es' he hes =>
        cases h
        obtain ⟨hlen, tail, rfl⟩ := ih hes
        refine ⟨by rw [List.length_cons, hlen], tail, ?_⟩
        rw [List.flatMap_cons, List.append_assoc, ← dirEntryOf_eq_some.mp he]
        rfl
      · cases h

theorem distinctUnits_iff (es : List DirEntry) : distinctUnits es = true ↔ (es.map DirEntry.unit).Nodup := by
  induction es with
  | nil => simp [distinctUnits]
  | cons e es ih =>
    simp only [distinctUnits, Bool.and_eq_true, List.all_eq_true, decide_eq_true_eq, ih, List.map_cons, List.nodup_cons,
      List.mem_map, not_exists, not_and, ne_eq]

/-! ### The image -/

/-- The seven bytes before an image's entries (11.5). -/
def header (d : Directory) : List Byte := [0x54, 0x43, 0x4E, 0x64, 1, BitVec.ofNat 8 d.entries.length, d.lease]

theorem imageBody_eq (d : Directory) : imageBody d = header d ++ d.entries.flatMap DirEntry.bytes :=
  congrArg (header d ++ ·) (List.flatMap_congr fun e _ => (dirEntryBytes_eq e).symm)

theorem count_toNat {d : Directory} (h : d.entries.length ≤ 32) :
    (BitVec.ofNat 8 d.entries.length).toNat = d.entries.length := by
  rw [BitVec.toNat_ofNat]; omega

/-- The bytes of a valid directory with their CRC-16 give it back. -/
theorem directoryOf_of_valid {d : Directory} (h : validDirectory d) :
    directoryOf (imageBody d ++ [hiByte (crc16 (imageBody d)), loByte (crc16 (imageBody d))]) = some d := by
  obtain ⟨hlen, hnodup, hlease⟩ := h
  have hcount := count_toNat hlen
  have hbytes := flatMap_bytes_length d.entries
  generalize hcrc : [hiByte (crc16 (imageBody d)), loByte (crc16 (imageBody d))] = crc
  have hcrclen : crc.length = 2 := by rw [← hcrc]; rfl
  have htake : ((imageBody d ++ crc).take (7 + 4 * d.entries.length)) = imageBody d := by
    refine List.take_left' ?_
    rw [imageBody_eq, List.length_append, hbytes, header]
    rfl
  have hlease1 : 1 ≤ d.lease.toNat := Nat.one_le_iff_ne_zero.mpr fun h0 => hlease (BitVec.eq_of_toNat_eq h0)
  rw [imageBody_eq, header] at htake ⊢
  simp only [List.cons_append, List.nil_append] at htake ⊢
  unfold directoryOf
  simp only [hcount, htake]
  rw [if_pos ⟨trivial, trivial, trivial, trivial, trivial, hlen, hlease1, by simp [hbytes, hcrclen]⟩]
  rw [if_pos, imageEntries_of_bytes]
  · simp [(distinctUnits_iff _).mpr hnodup]
  · rw [List.drop_left' hbytes, ← hcrc, imageBody_eq, header]
    rfl

theorem valid_of_directoryOf {image : List Byte} {d : Directory} (h : directoryOf image = some d) : validDirectory d ∧
    image = imageBody d ++ [hiByte (crc16 (imageBody d)), loByte (crc16 (imageBody d))] := by
  unfold directoryOf at h
  split at h
  · next s0 s1 s2 s3 version count lease rest =>
    split at h
    · next hhead =>
      obtain ⟨rfl, rfl, rfl, rfl, rfl, hcount, hlease, hrest⟩ := hhead
      dsimp only at h
      split at h
      · next hcrc =>
        split at h
        · next es hes =>
          split at h
          · next hdistinct =>
            cases h
            obtain ⟨hlen, tail, htail⟩ := bytes_of_imageEntries hes
            have hbytes := flatMap_bytes_length es
            have hbody : (0x54 :: 0x43 :: 0x4E :: 0x64 :: 1 :: count :: lease :: rest : List Byte) =
                imageBody { entries := es, lease := lease } ++ tail := by
              rw [imageBody_eq, header, htail]
              simp [hlen]
            have htake : (imageBody { entries := es, lease := lease } ++ tail).take (7 + 4 * count.toNat) =
                imageBody { entries := es, lease := lease } := by
              refine List.take_left' ?_
              rw [imageBody_eq, List.length_append, hbytes, header, ← hlen]
              rfl
            rw [hbody, htake, htail, List.drop_left' (by rw [hbytes, hlen])] at hcrc
            refine ⟨⟨by simp only; omega, (distinctUnits_iff es).mp hdistinct, fun h0 => ?_⟩, by rw [hbody, hcrc]⟩
            rw [show lease = 0 from h0] at hlease
            exact absurd hlease (by decide)
          · cases h
        · cases h
      · cases h
    · cases h
  · cases h

/-! ### The end of a load attempt -/

section
variable {s : State}

/-- Writing a list of entries from an index on. -/
theorem foldl_staging (es : List DirEntry) (k : Nat) (v : Vector (Option DirEntry) 32) (i : Fin 32) :
    ((es.zipIdx k).foldl (fun v x => v.setIfInBounds x.2 (some x.1)) v)[i.val] =
      if h : k ≤ i.val ∧ i.val < k + es.length then some (es[i.val - k]'(by omega)) else v[i.val] := by
  induction es generalizing k v with
  | nil =>
    rw [dif_neg (by simp)]
    simp
  | cons e es ih =>
    rw [List.zipIdx_cons, List.foldl_cons, ih]
    by_cases hik : i.val = k
    · subst hik
      simp
    · by_cases h : k + 1 ≤ i.val ∧ i.val < k + 1 + es.length
      · rw [dif_pos h, dif_pos (by simp; omega)]
        have hx : i.val - k = (i.val - (k + 1)) + 1 := by omega
        simp only [hx, List.getElem_cons_succ]
      · rw [dif_neg h, dif_neg (by simp; omega)]
        simp [Ne.symm hik]

theorem writeStaging_get (es : List DirEntry) (v : Vector (Option DirEntry) 32) (i : Fin 32) :
    (writeStaging es v)[i.val] = if h : i.val < es.length then some es[i.val] else v[i.val] := by
  rw [writeStaging, foldl_staging]
  simp

theorem exec_loadAttemptEnd_valid {image : List Byte} {d : Directory} (h : directoryOf image = some d)
    (hl : s.dsc.load = .first ∨ s.dsc.load = .second) : exec (.loadAttemptEnd image) s = .next (loadSucceeds d s) := by
  rcases hl with hl | hl <;> simp [exec, execLoadAttemptEnd, h, hl]

theorem restartLease_eq (x : PortIf) : x.restartLease = { x with
    lease := if x.state = .active then .running (x.leasePeriod.toNat * 10000) else x.lease } := by
  have htens : Timer.tens x.leasePeriod = .running (x.leasePeriod.toNat * 10000) := by
    rw [Timer.tens, Timer.ms, Nat.mul_assoc]
  rw [PortIf.restartLease, htens]
  split <;> rfl

/-- The state in which a load has failed and the leases run, CONFIG_FAILED not yet offered. -/
def withoutDirectory (s : State) : State := restartLeases (s.modDsc (fun x => { x with load := .failed, part := .unconfigured }))

theorem withoutDirectory_port (p : Port) : (withoutDirectory s).port p = (s.port p).restartLease := by cases p <;> rfl

theorem loadFails_port (p : Port) : (loadFails s).port p = { (s.port p).restartLease with
    noticeLost := ((loadFails s).port p).noticeLost } := by
  obtain ⟨-, hport⟩ := offerBoth_spec (withoutDirectory s) .configFailed none p
  rw [withoutDirectory_port] at hport
  exact hport

theorem loadFails_offers (p : Port) : noticeOffered p .configFailed none s (loadFails s) := by
  obtain ⟨hoffer, -⟩ := offerBoth_spec (withoutDirectory s) .configFailed none p
  have hlost : ((withoutDirectory s).port p).noticeLost = (s.port p).noticeLost := by
    rw [withoutDirectory_port, restartLease_eq]
  rw [noticeOffered, hlost] at hoffer
  exact hoffer

theorem loadFails_dsc : (loadFails s).dsc = { s.dsc with load := .failed, part := .unconfigured } :=
  offerBoth_dsc (withoutDirectory s) .configFailed none

/-- Settles O7: a load attempt's three ends, the image read back as its directory, and what the configuration port drives. -/
theorem aLoadAttemptEndsAsItsImageSays : Obligations.ALoadAttemptEndsAsItsImageSays := by
  refine ⟨fun s image => ⟨fun d h hl => ?_, fun h hl => ?_, fun h hl => ?_⟩, fun image d => ⟨valid_of_directoryOf, ?_⟩,
    fun s hp => ⟨fun hl => ?_, fun hl => ?_, fun hf hl => ?_⟩⟩
  · let s1 := s.modDsc (fun x => { x with load := .loaded, staging := writeStaging d.entries x.staging })
    refine ⟨loadSucceeds d s, exec_loadAttemptEnd_valid h hl, ?_⟩
    have hdsc : (loadSucceeds d s).dsc = { s1.dsc with active := some d, part := .ready } := activate_dsc (s := s1) d
    refine ⟨congrArg Dsc.part hdsc, congrArg Dsc.load hdsc, congrArg Dsc.active hdsc, activate_same (s := s1) d, fun i => ?_, fun p => ?_⟩
    · rw [hdsc]; exact writeStaging_get d.entries s.dsc.staging i
    · have hport := activate_port (s := s1) d p
      exact ⟨congrArg PortIf.leasePeriod hport, congrArg PortIf.lease hport, activate_offers (s := s1) d p⟩
  · simp [exec, execLoadAttemptEnd, h, hl, State.modDsc]
  · refine ⟨loadFails s, by simp [exec, execLoadAttemptEnd, h, hl], ?_⟩
    have hdsc := loadFails_dsc (s := s)
    refine ⟨by rw [hdsc], by rw [hdsc], by rw [hdsc], by rw [hdsc], offerBoth_same (withoutDirectory s) .configFailed none, fun p => ?_⟩
    refine ⟨?_, ?_, loadFails_offers p⟩ <;> rw [loadFails_port, restartLease_eq]
  · rintro ⟨hv, rfl⟩
    exact directoryOf_of_valid hv
  · simp [State.cfgSelected, State.cfgSends, hp, hl]
  · simp [State.cfgSelected, State.cfgSends, hp, hl]
  · simp [State.cfgSelected, State.cfgSends, hf, hl]

end

end Sys2Proof.Loading
end

section
/-! PROOFS. The frames of a port: chip select and bytes move the receiver, the last byte of a frame runs its row, and what a
good frame and a frame without a command do. -/

namespace Sys2Proof.PortFrames

open Sys2Proof.Machine Sys2Proof.Laws Sys2Proof.Loading

section
variable {s : State} {p : Port} {b code : Byte} {args : List Byte}

/-! ### The receiver -/

theorem modReceiver_eq (f : Receiver → Receiver) :
    s.modReceiver p f = s.modPort p (fun x => { x with receiver := f (s.port p).receiver }) :=
  modPort_congr s p rfl

/-- Settles O8: the two events of chip select outside a reset. -/
theorem chipSelectOpensAndEndsATransaction : Obligations.ChipSelectOpensAndEndsATransaction := by
  refine ⟨fun s p hp hr => ?_, fun s p hp ha => ?_⟩
  · simp [exec, execChipSelectAssert, hp, hr, State.modReceiver, Receiver.unselected]
  · simp [exec, execChipSelectDeassert, hp, ha, State.modReceiver, Receiver.unselected]

theorem exec_byteTaken_receiving (hp : s.dsc.phase = .none) (hr : (s.port p).receiver.state = .receiving) :
    exec (.byteTaken p b) s = .next (receiveByte p b s) := by
  simp [exec, execByteTaken, hp, hr]

theorem receiveByte_joins (hb : frameWhole ((s.port p).receiver.bytes ++ [b]) = false)
    (hl : (s.port p).receiver.bytes.length = 1 → b.toNat ≤ 70) : receiveByte p b s =
      s.modReceiver p (fun x => { x with bytes := (s.port p).receiver.bytes ++ [b], count := x.count + 1 }) := by
  have hlen : ¬ (((s.port p).receiver.bytes ++ [b]).length = 2 ∧ Config.maxArgs < b.toNat) := fun h => by
    have h1 := hl (by simpa using h.1)
    have h2 := h.2
    simp only [Config.maxArgs] at h2
    omega
  unfold receiveByte
  simp only [if_neg hlen, hb, Bool.false_eq_true, if_false]

/-- The byte a port drives while its response goes out: byte k of the response frame (R168). -/
theorem output_of_responding {r : Response} {k : Nat} (hp : s.dsc.phase = .none) (hc : (s.port p).chipSelect = true)
    (hr : (s.port p).receiver.state = .responding) (hx : (s.port p).receiver.response = some r)
    (hk : (s.port p).receiver.count = (s.port p).receiver.bytes.length + 2 + k) (hlt : k < r.data.length + 3) :
    s.output p = r.wire[k]? := by
  have hlen : k < r.wire.length := by
    simp only [Response.wire, List.length_append, List.length_cons, List.length_nil]
    omega
  simp only [State.output, hp, hc, hr, hx, hk, Nat.add_sub_cancel_left, List.getD_eq_getElem?_getD,
    List.getElem?_eq_getElem hlen]
  simp

/-- Settles O9: a byte in each state of the receiver, and the byte driven meanwhile. -/
theorem aByteMovesTheTransactionOn : Obligations.AByteMovesTheTransactionOn := by
  refine ⟨fun s p b hp => ⟨fun hr hw hl => ?_, fun hr hc => ?_, fun hr hc => ?_, fun hr hc => ?_, fun ha hr hc => ?_,
    fun hr => ?_, fun hr => ?_⟩, fun s p hp => ⟨fun hc => ?_, fun hc hr => ?_, fun r k hc hr hx hk hlt =>
      output_of_responding hp hc hr hx hk hlt⟩⟩
  · rw [exec_byteTaken_receiving hp hr, receiveByte_joins hw hl, modReceiver_eq]
  · simp [exec, execByteTaken, hp, hr, hc, modReceiver_eq, receiverAt]
  · simp [exec, execByteTaken, hp, hr, hc, modReceiver_eq, receiverAt]
  · simp [exec, execByteTaken, hp, hr, hc, modReceiver_eq, receiverAt]
  · simp [exec, execByteTaken, hp, hr, hc, ha, modReceiver_eq, receiverAt]
  · simp [exec, execByteTaken, hp, hr, modReceiver_eq, receiverAt]
  · rcases hr with hr | hr <;> simp [exec, execByteTaken, hp, hr]
  · simp [State.output, hc]
  · unfold State.output
    dsimp only
    split
    · next hx => simp [hp, hc] at hx
    · split
      · next hx _ => exact absurd hx hr
      · rfl

/-! ### The command of a frame -/

/-- A code without a command, or a length its command does not accept, is a bad command (R173 steps 3 and 4). -/
theorem runCommand_of_not_accepted (h : lengthAccepted code.toNat args.length = false) :
    runCommand p code args = fun s => (s, .bare .badCommand) := by
  unfold runCommand
  generalize code.toNat = n at h
  by_cases hn : n < 22
  · interval_cases n
    · -- no command has code 00h
      rfl
    · -- READ_STATUS (01h)
      rcases args with _ | _
      exacts [absurd h nofun, rfl]
    · -- KEEPALIVE (02h)
      rcases args with _ | _
      exacts [absurd h nofun, rfl]
    · -- START (03h)
      rcases args with _ | ⟨_, _ | ⟨_, _ | ⟨_, _ | _⟩⟩⟩
      exacts [rfl, rfl, rfl, absurd h nofun, rfl]
    · -- HALT (04h)
      rcases args with _ | ⟨_, _ | _⟩
      exacts [rfl, absurd h nofun, rfl]
    · -- QUERY_UNIT (05h)
      rcases args with _ | ⟨_, _ | _⟩
      exacts [rfl, absurd h nofun, rfl]
    · -- ADOPT (06h)
      rcases args with _ | ⟨_, _ | _⟩
      exacts [rfl, absurd h nofun, rfl]
    · -- TAKE_RECORD (07h)
      rcases args with _ | _
      exacts [absurd h nofun, rfl]
    · -- PEEK_RECORD (08h)
      rcases args with _ | _
      exacts [absurd h nofun, rfl]
    · -- PEER_TAKE (09h)
      rcases args with _ | _
      exacts [absurd h nofun, rfl]
    · -- READ_STORE (0Ah)
      rcases args with _ | ⟨_, _ | ⟨_, _ | ⟨_, _ | _⟩⟩⟩
      exacts [rfl, rfl, rfl, absurd h nofun, rfl]
    · -- WRITE_STORE (0Bh)
      rcases args with _ | ⟨_, _ | ⟨_, _ | ⟨_, ds⟩⟩⟩
      exacts [rfl, rfl, rfl, if_neg fun hds => by simp [lengthAccepted] at h; omega]
    · -- CLAIM_PAGES (0Ch)
      rcases args with _ | ⟨_, _ | ⟨_, _ | _⟩⟩
      exacts [rfl, rfl, absurd h nofun, rfl]
    · -- SHARE_PAGES (0Dh)
      rcases args with _ | ⟨_, _ | ⟨_, _ | _⟩⟩
      exacts [rfl, rfl, absurd h nofun, rfl]
    · -- RELEASE_PAGES (0Eh)
      rcases args with _ | ⟨_, _ | ⟨_, _ | _⟩⟩
      exacts [rfl, rfl, absurd h nofun, rfl]
    · -- QUERY_PAGES (0Fh)
      rcases args with _ | ⟨_, _ | ⟨_, _ | _⟩⟩
      exacts [rfl, rfl, absurd h nofun, rfl]
    · -- PORT_RESET (10h)
      rcases args with _ | _
      exacts [absurd h nofun, rfl]
    · -- LINK_RESET (11h)
      rcases args with _ | _
      exacts [absurd h nofun, rfl]
    · -- PART_RESET (12h)
      rcases args with _ | _
      exacts [absurd h nofun, rfl]
    · -- LOAD_DIRECTORY (13h)
      rcases args with _ | ⟨_, _ | ⟨_, _ | ⟨_, _ | ⟨_, _ | ⟨_, _ | _⟩⟩⟩⟩⟩
      exacts [rfl, rfl, rfl, rfl, rfl, absurd h nofun, rfl]
    · -- COMMIT_DIRECTORY (14h)
      rcases args with _ | ⟨_, _ | ⟨_, _ | _⟩⟩
      exacts [rfl, rfl, absurd h nofun, rfl]
    · -- READ_DIRECTORY (15h)
      rcases args with _ | ⟨_, _ | _⟩
      exacts [rfl, absurd h nofun, rfl]
  · obtain ⟨m, rfl⟩ := Nat.exists_eq_add_of_le (Nat.le_of_not_lt hn)
    rw [Nat.add_comm]
    rfl

theorem wordOf_bytes (a : Word) : wordOf (hiByte a) (loByte a) = a := by
  unfold wordOf hiByte loByte
  refine BitVec.eq_of_toNat_eq ?_
  have := a.isLt
  simp only [BitVec.toNat_append, BitVec.toNat_setWidth, BitVec.toNat_ushiftRight, Nat.shiftRight_eq_div_pow]
  rw [← Nat.shiftLeft_add_eq_or_of_lt (by omega), Nat.shiftLeft_eq]
  omega

/-- A row of a command frame takes the frame and runs the command of its code and arguments (R173). -/
theorem exec_row {c : Instr} (h : rowFrame c = some (p, code, args)) (hw : c.wellFormed = true) :
    exec c s = .next (takeCommand p code args (runCommand p code args) s) ∧ args.length ≤ 70 := by
  cases c
  case start p u a =>
    cases h
    refine ⟨?_, by simp⟩
    change _ = Host.Outcome.next (takeCommand p 3 _ (doStart p u (wordOf (hiByte a) (loByte a))) s)
    rw [wordOf_bytes]
    rfl
  case readStore p a n =>
    cases h
    refine ⟨?_, by simp⟩
    change _ = Host.Outcome.next (takeCommand p 0x0A _ (doReadStore p (wordOf (hiByte a) (loByte a)) n) s)
    rw [wordOf_bytes]
    rfl
  case writeStore p a data =>
    cases h
    simp only [Instr.wellFormed, Bool.and_eq_true, decide_eq_true_eq] at hw
    obtain ⟨h1, h2⟩ := hw
    refine ⟨?_, by simp; omega⟩
    cases data with
    | nil => simp at h1
    | cons d ds =>
      have hds : ds.length ≤ 63 := Nat.le_of_succ_le_succ h2
      have hrun : runCommand p 0x0B (hiByte a :: loByte a :: d :: ds) = doWriteStore p a (d :: ds) := by
        change (if ds.length ≤ 63 then doWriteStore p (wordOf (hiByte a) (loByte a)) (d :: ds) else _) = _
        rw [if_pos hds, wordOf_bytes]
      have hlen : lengthAccepted 0x0B (hiByte a :: loByte a :: d :: ds).length = true := by
        simp [lengthAccepted]; omega
      have hmax : (hiByte a :: loByte a :: d :: ds).length ≤ Config.maxArgs := by
        simp [Config.maxArgs]; omega
      rw [hrun]
      simp only [exec, execWriteStore, if_pos hmax, hlen, if_true]
  case badCommand p code args =>
    cases h
    obtain ⟨hlen, hbad⟩ := Bool.and_eq_true_iff.mp hw
    refine ⟨?_, of_decide_eq_true hlen⟩
    rw [runCommand_of_not_accepted (by simpa using hbad)]
    exact if_pos hw
  all_goals cases h
  all_goals exact ⟨rfl, by simp⟩

/-! ### The last byte of a frame -/

/-- The bytes of a frame before its CRC-8. -/
def frameBody (code : Byte) (args : List Byte) : List Byte := code :: BitVec.ofNat 8 args.length :: args

theorem frameWhole_frameBody (check : Byte) (h : args.length ≤ 70) : frameWhole (frameBody code args ++ [check]) = true := by
  have hlen : (BitVec.ofNat 8 args.length).toNat = args.length := by rw [BitVec.toNat_ofNat]; omega
  simp [frameWhole, frameBody, hlen, Config.maxArgs, h]

theorem receiveByte_whole (check : Byte) (h : args.length ≤ 70) (hb : (s.port p).receiver.bytes = frameBody code args) :
    receiveByte p check s =
      takeFrame p (frameBody code args ++ [check]) (judgeFrame p (frameBody code args ++ [check])) s := by
  have hlen : ¬ ((frameBody code args ++ [check]).length = 2 ∧ Config.maxArgs < check.toNat) := by simp [frameBody]
  unfold receiveByte
  simp only [hb, if_neg hlen, frameWhole_frameBody check h, if_true]

theorem frameGood_concat (l : List Byte) (check : Byte) : frameGood (l ++ [check]) = decide (check = crc8 l) := by
  simp [frameGood]

theorem judgeFrame_good : judgeFrame p (frameBody code args ++ [crc8 (frameBody code args)]) =
    fun s => runCommand p code args (goodFrame p s) := by
  funext s
  unfold judgeFrame
  rw [if_pos (by simp [frameGood_concat]), List.dropLast_concat]
  rfl

theorem judgeFrame_bad {check : Byte} (h : check ≠ crc8 (frameBody code args)) :
    judgeFrame p (frameBody code args ++ [check]) = fun s => (s, .bare .frameError) := by
  funext s
  unfold judgeFrame
  rw [if_neg (by simpa [frameGood_concat] using h)]

/-- Settles O10: the byte that makes a frame whole is judged as the row of the frame says. -/
theorem theLastByteOfAFrameRunsItsRow : Obligations.TheLastByteOfAFrameRunsItsRow := by
  refine ⟨fun c p code args s h hw hp hr hb => ?_, fun s p code check args hp hr hl => ?_, fun s p code len hp hr hb hl => ?_⟩
  · obtain ⟨hexec, hlen⟩ := exec_row (s := s) h hw
    rw [hexec, exec_byteTaken_receiving hp hr, receiveByte_whole _ hlen hb]
    exact congrArg (fun f => Host.Outcome.next (takeFrame p (commandFrame code args) f s)) judgeFrame_good
  · intro bytes hb hc
    rw [exec_byteTaken_receiving hp hr, receiveByte_whole _ hl hb, judgeFrame_bad hc]
    refine (if_pos ?_).symm
    rw [Bool.and_eq_true]
    refine ⟨frameWhole_frameBody check hl, ?_⟩
    rw [frameGood_concat]
    simpa using hc
  · rw [exec_byteTaken_receiving hp hr]
    have hlen : (([code] ++ [len]).length = 2 ∧ Config.maxArgs < len.toNat) := ⟨rfl, hl⟩
    simp only [receiveByte, hb, if_pos hlen]
    exact (if_pos hl).symm

/-! ### What a frame's command finds -/

/-- A notice's offer between two states that differ from these only elsewhere. -/
theorem noticeOffered_congr {x : Port} {c : NoticeCode} {a : Option Nat} {s s' t t' : State} (h : noticeOffered x c a s t)
    (hq : s'.queue x = s.queue x) (hn : s'.seqNo x = s.seqNo x) (hh : s'.heldList x = s.heldList x)
    (hl : (s'.port x).noticeLost = (s.port x).noticeLost) (hq' : t'.queue x = t.queue x) (hn' : t'.seqNo x = t.seqNo x)
    (hl' : (t'.port x).noticeLost = (t.port x).noticeLost) : noticeOffered x c a s' t' := by
  unfold noticeOffered roomIn at h ⊢
  rw [hq, hn, hh, hl, hq', hn', hl']
  exact h

theorem restartLease_active {x : PortIf} (h : x.state = .active) :
    x.restartLease = { x with lease := .running (x.leasePeriod.toNat * 10000) } := by
  rw [restartLease_eq, if_pos h]

theorem frameTaken_eq (frame : List Byte) : frameTaken p frame s = s.modPort p (fun x =>
    { x with receiver := { state := .turnaround, bytes := frame, count := frame.length, response := none } }) := rfl

theorem goodFrame_started (ha : (s.port p).state = .active) (hp : s.dsc.part ≠ .loading) : goodFrame p s =
    s.modPort p (fun x => { x with lease := .running ((s.port p).leasePeriod.toNat * 10000) }) := by
  unfold goodFrame
  rw [if_neg (by rw [ha]; exact nofun), if_pos (show s.started = true from decide_eq_true hp)]
  exact modPort_congr s p (restartLease_active ha)

theorem goodFrame_loading (ha : (s.port p).state = .active) (hp : s.dsc.part = .loading) : goodFrame p s = s := by
  unfold goodFrame
  rw [if_neg (by rw [ha]; exact nofun), if_neg (by simp [State.started, hp])]

/-- The port is ACTIVE again, its lease started, the two notices of R140 not yet offered. -/
def reactivated (p : Port) (s : State) : State :=
  s.modPort p (fun x => { x with state := .active, lease := .running ((s.port p).leasePeriod.toNat * 10000) })

theorem goodFrame_lapsed (hl : (s.port p).state = .lapsed) : goodFrame p s =
    offerNotice p .adoptedAway (some (s.port p).adoptedAway) (offerNotice p.peer .peerResumed none (reactivated p s)) := by
  have htens : Timer.tens (s.port p).leasePeriod = .running ((s.port p).leasePeriod.toNat * 10000) := by
    rw [Timer.tens, Timer.ms, Nat.mul_assoc]
  have hstate : s.modPort p (fun x => { x with state := .active, lease := Timer.tens x.leasePeriod }) = reactivated p s :=
    modPort_congr s p (by rw [htens])
  have haway : ((reactivated p s).port p).adoptedAway = (s.port p).adoptedAway := by simp [reactivated]
  unfold goodFrame resume
  rw [if_pos hl, hstate, ← haway]

/-- The two notices of a resumption, one for each queue. -/
theorem offers_of_resumption (c : NoticeCode) (n : Option Nat) (c' : NoticeCode) (n' : Option Nat) (x : State) :
    let t := offerNotice p c n (offerNotice p.peer c' n' x)
    noticeOffered p.peer c' n' x t ∧ noticeOffered p c n x t ∧
      t.port p = { x.port p with noticeLost := (t.port p).noticeLost } ∧
      t.port p.peer = { x.port p.peer with noticeLost := (t.port p.peer).noticeLost } := by
  intro t
  obtain ⟨hpeer, hpeerport⟩ := offerNotice_spec x p.peer c' n'
  obtain ⟨hq, hn, hport⟩ := offerNotice_other x p.peer p c' n' (ne_peer p)
  obtain ⟨hown, hownport⟩ := offerNotice_spec (offerNotice p.peer c' n' x) p c n
  obtain ⟨hq', hn', hport'⟩ := offerNotice_other (offerNotice p.peer c' n' x) p p.peer c n (peer_ne p)
  refine ⟨noticeOffered_congr hpeer rfl rfl rfl rfl hq' hn' (by rw [hport']), ?_, ?_, ?_⟩
  · exact noticeOffered_congr hown hq.symm hn.symm (by simp) (by rw [hport]) rfl rfl rfl
  · rw [hport] at hownport
    exact hownport
  · rw [← hport'] at hpeerport
    exact hpeerport

/-- Settles O11: the lease restart of an ACTIVE port, and the resumption of a LAPSED one with its two notices. -/
theorem aGoodFrameRestartsTheLeaseOrResumesThePort : Obligations.AGoodFrameRestartsTheLeaseOrResumesThePort := by
  intro s p code args b r
  let x := frameTaken p (commandFrame code args) s
  have hport : x.port p = { s.port p with receiver := r } := by simp [x, frameTaken_eq, r]
  have hpeer : x.port p.peer = s.port p.peer := by simp [x, frameTaken_eq]
  have hx : x = s.modPort p (fun x => { x with receiver := r }) := rfl
  refine ⟨fun ha hp => ?_, fun ha hp => ?_, fun hl => ?_⟩
  · have hb : b = x.modPort p (fun y => { y with lease := .running ((x.port p).leasePeriod.toNat * 10000) }) :=
      goodFrame_started (by rw [hport]; exact ha) hp
    rw [hb, hport, hx, modPort_modPort]
  · exact goodFrame_loading (s := x) (by rw [hport]; exact ha) hp
  · have hb : b = offerNotice p .adoptedAway (some (x.port p).adoptedAway)
        (offerNotice p.peer .peerResumed none (reactivated p x)) := goodFrame_lapsed (by rw [hport]; exact hl)
    obtain ⟨h1, h2, h3, h4⟩ := offers_of_resumption (p := p) .adoptedAway (some (x.port p).adoptedAway) .peerResumed none
      (reactivated p x)
    rw [← hb] at h1 h2 h3 h4
    have hown : (reactivated p x).port p = { s.port p with
        receiver := r, state := .active, lease := .running ((s.port p).leasePeriod.toNat * 10000) } := by
      simp [reactivated, hport]
    have hother : (reactivated p x).port p.peer = s.port p.peer := by simp [reactivated, hpeer]
    rw [hown] at h3
    rw [hother] at h4
    rw [hport] at h2
    obtain ⟨hsame, hdsc⟩ := judged_same s p code args
    exact ⟨hsame, hdsc, noticeOffered_congr h1 rfl rfl rfl (by rw [hother]) rfl rfl rfl,
      noticeOffered_congr h2 rfl rfl rfl (by rw [hown]) rfl rfl rfl, h3, h4⟩

theorem takeFrame_of_takes {frame : List Byte} (f : State → State × Response) (h : s.canTake p frame = true)
    (ha : s.dsc.agreed = none) : takeFrame p frame f s =
      respond p (f (frameTaken p frame s)).2 (f (frameTaken p frame s)).1 := by
  simp only [takeFrame, h, ha, if_true]

theorem respond_frameTaken (frame : List Byte) (r : Response) : respond p r (frameTaken p frame s) = s.modPort p (fun x =>
    { x with receiver := { state := .turnaround, bytes := frame, count := frame.length, response := some r } }) := by
  rw [respond, modReceiver_eq, frameTaken_eq, modPort_modPort]
  simp

/-- Settles O12: a bad frame is answered at once, and a good one without a command once it has been judged. -/
theorem aFrameWithoutACommandIsAnsweredAndNothingElse : Obligations.AFrameWithoutACommandIsAnsweredAndNothingElse := by
  refine ⟨⟨fun s p frame h ha hw hg => ?_, fun s p code len h ha hl => ?_⟩, fun s p code args h hl hbad => ?_⟩
  · have hbad : frameWhole frame && !frameGood frame := by simp [hw, frameGood, hg]
    exact (if_pos hbad).trans (congrArg _ ((takeFrame_of_takes _ h ha).trans (respond_frameTaken frame _)))
  · exact (if_pos hl).trans (congrArg _ ((takeFrame_of_takes _ h ha).trans (respond_frameTaken [code, len] _)))
  · have hacc : lengthAccepted code.toNat args.length = false := by
      rcases hbad with h0 | h22 | h
      · rw [h0]; rfl
      · obtain ⟨m, hm⟩ := Nat.exists_eq_add_of_le h22
        rw [hm, Nat.add_comm]; rfl
      · exact h
    have hcond : args.length ≤ Config.maxArgs && !lengthAccepted code.toNat args.length := by
      simp [hacc, Config.maxArgs, hl]
    exact (if_pos hcond).trans (congrArg _ (takeCommand_eq s p code args _ h))

/-! ### KEEPALIVE and READ_STATUS -/

theorem statusFlags_eq (x y z : Bool) : bit x 0 ||| bit y 1 ||| bit z 2 =
    BitVec.ofNat 8 ((if x = true then 1 else 0) + (if y = true then 2 else 0) + if z = true then 4 else 0) := by
  cases x <;> cases y <;> cases z <;> rfl

theorem strapsByte_eq (x : Straps) : strapsByte x = BitVec.ofNat 8 ((if x.cfgSrc = .portLoad then 1 else 0)
    + (if x.linkRate = .mbit4 then 2 else 0) + if x.cfgSpeed = .mhz8 then 4 else 0) := by
  obtain ⟨src, rate, speed⟩ := x
  cases src <;> cases rate <;> cases speed <;> rfl

/-- Settles O13: KEEPALIVE answers only, READ_STATUS answers its eleven bytes and clears NOTICE_LOST. -/
theorem keepaliveAndReadStatusReportOnly : Obligations.KeepaliveAndReadStatusReportOnly := by
  refine ⟨fun s p h => congrArg Host.Outcome.next (takeCommand_eq s p 0x02 [] _ h), fun s p h => ?_⟩
  intro b own
  refine (congrArg Host.Outcome.next (takeCommand_eq s p 0x01 [] _ h)).trans ?_
  simp only [doReadStatus, State.statusBytes, statusFlags_eq, strapsByte_eq, decide_eq_true_eq]
  rfl

end

end Sys2Proof.PortFrames
end

section
/-! PROOFS. The records: TAKE_RECORD, PEEK_RECORD and PEER_TAKE at the head of a queue, the bytes of a record, and WRITE_STORE. -/

namespace Sys2Proof.RecordCommands

open Sys2Proof.Machine Sys2Proof.Laws Sys2Proof.StepActs Sys2Proof.UnitContexts Sys2Proof.StorePages

section
variable {s : State} {p : Port}

/-! ### The bytes of a record -/

theorem bytes_of_word {lo hi : Nat} (hlo : lo < 256) :
    hiByte (BitVec.ofNat 16 (lo + 256 * hi)) = BitVec.ofNat 8 hi ∧
      loByte (BitVec.ofNat 16 (lo + 256 * hi)) = BitVec.ofNat 8 lo := by
  unfold hiByte loByte
  constructor <;> refine BitVec.eq_of_toNat_eq ?_
  · simp only [BitVec.toNat_setWidth, BitVec.toNat_ushiftRight, BitVec.toNat_ofNat, Nat.shiftRight_eq_div_pow]
    omega
  · simp only [BitVec.toNat_setWidth, BitVec.toNat_ofNat]
    omega

/-- The bits of a list of flags, the first one the lowest. -/
def flagBits (l : List Bool) : Nat := l.foldr (fun b r => (if b then 1 else 0) + 2 * r) 0

theorem flagBits_cons (b : Bool) (l : List Bool) : flagBits (b :: l) = b.toNat + 2 * flagBits l := by
  cases b <;> rfl

theorem flagBits_lt (l : List Bool) : flagBits l < 2 ^ l.length := by
  induction l with
  | nil => exact Nat.one_pos
  | cons b l ih =>
    have hb := b.toNat_le
    rw [flagBits_cons, List.length_cons, pow_succ]
    omega

/-- The two bytes of a record's conditions (11.4). -/
theorem conds_bytes (x : Conds) :
    hiByte x.bits = BitVec.ofNat 8 (flagBits [x.adopted, x.timeout, x.linkReset, x.milestoneMissed]) ∧
      loByte x.bits = BitVec.ofNat 8 (flagBits
        [x.length, x.storeFault, x.programFault, x.linkFault, x.protocol, x.noUnit, x.refused, x.halted]) := by
  have hlow := flagBits_lt [x.length, x.storeFault, x.programFault, x.linkFault, x.protocol, x.noUnit, x.refused, x.halted]
  have hbits : x.bits = BitVec.ofNat 16
      (flagBits [x.length, x.storeFault, x.programFault, x.linkFault, x.protocol, x.noUnit, x.refused, x.halted] +
        256 * flagBits [x.adopted, x.timeout, x.linkReset, x.milestoneMissed]) := by
    have hnil : flagBits [] = 0 := rfl
    rw [Conds.bits]
    simp only [flagBits_cons, hnil]
    congr 1
    omega
  rw [hbits]
  exact bytes_of_word (by simpa using hlow)

theorem statusByte_eq (st : UStatus) : statusByte st = BitVec.ofNat 8 st.toNat :=
  BitVec.eq_of_toNat_eq (by simp [statusByte])

theorem completionFlags_eq (owner : Port) (status : Option UStatus) : bit (owner = .b) 0 ||| bit status.isSome 1 =
    BitVec.ofNat 8 ((if owner = .b then 1 else 0) + if status = none then 0 else 2) := by
  cases owner <;> cases status <;> simp [bit]

theorem completion_bytes (n : Word) (c : Completion) : ({ seq := n, body := .completion c } : Record).bytes =
    [1, hiByte n, loByte n, BitVec.ofNat 8 c.unit.val,
      BitVec.ofNat 8 ((if c.owner = .b then 1 else 0) + if c.status = none then 0 else 2),
      BitVec.ofNat 8 (match c.status with | some st => st.toNat | none => 0), hiByte c.lastDesc, loByte c.lastDesc,
      hiByte c.resume, loByte c.resume, hiByte (BitVec.ofNat 16 c.residual), loByte (BitVec.ofNat 16 c.residual),
      BitVec.ofNat 8 (flagBits [c.conds.adopted, c.conds.timeout, c.conds.linkReset, c.conds.milestoneMissed]),
      BitVec.ofNat 8 (flagBits [c.conds.length, c.conds.storeFault, c.conds.programFault, c.conds.linkFault,
        c.conds.protocol, c.conds.noUnit, c.conds.refused, c.conds.halted]), 0, 0] := by
  obtain ⟨hhigh, hlow⟩ := conds_bytes c.conds
  have hstatus : statusByte (c.status.getD 0) = BitVec.ofNat 8 (match c.status with | some st => st.toNat | none => 0) := by
    cases c.status <;> simp [statusByte_eq]
  simp only [Record.bytes, completionFlags_eq, hstatus, hhigh, hlow, unitByte]

/-! ### The head of a queue -/

/-- The removal of the head, and the refill from the held list (R118, R120). -/
theorem removalOf_removeHead {r : Record} {rest : List Record} (h : s.queue p = r :: rest) :
    removalOf p rest s (removeHead p s) := by
  have htail : (s.queue p).tail = rest := by rw [h]; rfl
  unfold removeHead
  rw [htail]
  refine ⟨fun hheld => ?_, fun u us c hheld hrec hseg => ?_⟩
  · simp [refill, hheld]
  · have hidle : refill p (s.setQueue p rest) =
        goIdle u (enqueue p (.completion c) ((s.setQueue p rest).setHeldList p us)) := by
      simp only [refill, setQueue_heldList, hheld, setQueue_ctx, hrec]
    rw [hidle, goIdle, ceaseSegment_of_no_segment (by simpa using hseg), enqueue]
    cases p <;> rfl

theorem takeFrom_empty (h : s.queue p = []) : takeFrom p s = (s, .bare .empty) := by simp [takeFrom, h]

theorem takeFrom_head {r : Record} {rest : List Record} (h : s.queue p = r :: rest) :
    takeFrom p s = (removeHead p s, { code := .ok, data := r.bytes }) := by simp [takeFrom, h]

theorem doPeekRecord_empty (h : s.queue p = []) : doPeekRecord p s = (s, .bare .empty) := by simp [doPeekRecord, h]

theorem doPeekRecord_head {r : Record} {rest : List Record} (h : s.queue p = r :: rest) :
    doPeekRecord p s = (s, { code := .ok, data := r.bytes }) := by simp [doPeekRecord, h]

theorem doPeerTake_active (h : (s.port p.peer).state = .active) : doPeerTake p s = (s, .bare .peerActive) :=
  if_neg (by rw [h]; exact nofun)

theorem doPeerTake_lapsed (h : (s.port p.peer).state = .lapsed) : doPeerTake p s = takeFrom p.peer s := if_pos h

/-- Settles O14: the head of a queue copied or removed with the refill, and the sixteen bytes of each kind of record. -/
theorem recordsAreTakenFromTheHeadAndRefilled : Obligations.RecordsAreTakenFromTheHeadAndRefilled := by
  refine ⟨fun s p h => ?_, fun s p h => ?_, fun s p h => ?_, completion_bytes, fun n u st a => ?_, fun n c x => ?_⟩
  · have hx := takeCommand_eq s p 0x08 [] (doPeekRecord p) h
    refine ⟨fun hq => ?_, fun r rest hq => ?_⟩
    · rw [doPeekRecord_empty hq] at hx; exact congrArg _ hx
    · rw [doPeekRecord_head hq] at hx; exact congrArg _ hx
  · have hx := takeCommand_eq s p 0x07 [] (doTakeRecord p) h
    rw [doTakeRecord] at hx
    refine ⟨fun hq => ?_, fun r rest hq => ?_⟩
    · rw [takeFrom_empty hq] at hx; exact congrArg _ hx
    · rw [takeFrom_head hq] at hx; exact ⟨_, congrArg _ hx, removalOf_removeHead hq⟩
  · have hx := takeCommand_eq s p 0x09 [] (doPeerTake p) h
    refine ⟨fun ha => ?_, fun hl hq => ?_, fun r rest hl hq => ?_⟩
    · rw [doPeerTake_active ha] at hx; exact congrArg _ hx
    · rw [doPeerTake_lapsed hl, takeFrom_empty hq] at hx; exact congrArg _ hx
    · rw [doPeerTake_lapsed hl, takeFrom_head hq] at hx; exact ⟨_, congrArg _ hx, removalOf_removeHead hq⟩
  · simp [Record.bytes, statusByte_eq, unitByte]
  · cases c <;> exact ⟨rfl, rfl⟩

/-! ### WRITE_STORE -/

theorem exec_writeStore {addr : Word} {data : List Byte} (h : s.takes p 0x0B (hiByte addr :: loByte addr :: data))
    (hl : data.length ≤ 68) : exec (.writeStore p addr data) s = answered p
      (if 1 ≤ data.length ∧ data.length ≤ 64 then doWriteStore p addr data (s.judged p 0x0B (hiByte addr :: loByte addr :: data))
        else (s.judged p 0x0B (hiByte addr :: loByte addr :: data), .bare .badCommand)) := by
  have hmax : (hiByte addr :: loByte addr :: data).length ≤ Config.maxArgs := by simp [Config.maxArgs]; omega
  have hacc : lengthAccepted 0x0B (hiByte addr :: loByte addr :: data).length =
      decide (1 ≤ data.length ∧ data.length ≤ 64) := by
    rw [Bool.eq_iff_iff]
    simp [lengthAccepted]
    omega
  refine (if_pos hmax).trans (congrArg Host.Outcome.next ((takeCommand_eq s p _ _ _ h).trans ?_))
  simp only [hacc, decide_eq_true_eq]

/-- The page check of WRITE_STORE names the lowest page closed to the port, and otherwise every byte is written (R55). -/
theorem doWriteStore_of_fits {addr : Word} {data : List Byte} (h : bytesFit addr data.length) : doWriteStore p addr data s =
    refuseAt .pageFault (s.closedPage p addr data.length) s (s.writeBytes addr data, .bare .ok) :=
  if_pos ((bytesOk_iff addr data.length).mpr h)

/-- Settles O16: the checks of WRITE_STORE, then the bytes written. -/
theorem writeStoreWritesEveryByteOrNone : Obligations.WriteStoreWritesEveryByteOrNone := by
  intro s p addr data h hs b fails
  have hrun : ∀ hl : 1 ≤ data.length ∧ data.length ≤ 64,
      exec (.writeStore p addr data) s = answered p (doWriteStore p addr data b) := fun hl => by
    rw [exec_writeStore h (by omega), if_pos hl]
  refine ⟨fun hl => ?_, fun h1 h64 hfit => ?_, fun q hfit hq => ?_, fun hfit hn => ?_⟩
  · rw [exec_writeStore h (by omega), if_neg (by omega)]
    rfl
  · rw [hrun ⟨h1, h64⟩, doWriteStore, if_neg fun hx => hfit ((bytesOk_iff addr data.length).mp hx)]
    rfl
  · rw [hrun ⟨hfit.2.1, hfit.2.2.1⟩, doWriteStore_of_fits hfit, refuseAt_of_fails (closedPage_iff hfit) hq]
    rfl
  · rw [hrun ⟨hfit.2.1, hfit.2.2.1⟩, doWriteStore_of_fits hfit, refuseAt_of_none_fails (closedPage_iff hfit) hn]
    obtain ⟨hsame, -⟩ := judged_same s p 0x0B (hiByte addr :: loByte addr :: data)
    have hstore : b.storeOk := by
      unfold State.storeOk at hs ⊢
      rwa [show b.str = s.str from hsame.2.2.1]
    refine ⟨(b.writeBytes addr data).str.store, ?_, fun a => ?_⟩
    · rw [← writeBytes_eq]; rfl
    · have hbyte := byteAt_writeBytes data (s := b) addr a hstore hfit.2.2.2
      exact hbyte.trans (by simp [placedAt])

end

end Sys2Proof.RecordCommands
end

section
/-! PROOFS. ADOPT: what becomes of one context of the LAPSED peer, and of all of them. -/

namespace Sys2Proof.Adoption

open Sys2Proof.Machine Sys2Proof.Laws Sys2Proof.StepActs Sys2Proof.UnitContexts Sys2Proof.PortClear

section
variable {s : State} {p : Port} {arg : Byte} {u : UnitAddr}

/-- A halt request on a context that has reached the link, and its place on the stop queue (R12, R15). -/
theorem haltOnLink_eq (cause : HaltCause) : haltOnLink u cause s =
    (s.modStopQ (fun l => if (s.ctx u).state = .disconnected ∧ (s.ctx u).stopQueued = false then l ++ [u] else l)).modCtx u
      (halted cause) := by
  refine state_ext ?_ ?_ ?_ ?_ ?_ ?_ ?_ ?_ ?_ ?_ ?_ ?_ ?_
  case refine_2 => intro v; rw [haltOnLink_ctx]; simp
  case refine_4 => rw [haltOnLink_stopQ]; rfl
  all_goals simp

/-! ### The checks -/

theorem exec_adopt {t : State} {r : Response} (h : s.takes p 0x06 [arg]) (hd : doAdopt p arg (s.judged p 0x06 [arg]) = (t, r)) :
    exec (.adopt p arg) s = .next (respond p r t) :=
  congrArg Host.Outcome.next ((takeCommand_eq s p _ _ _ h).trans (by rw [hd]))

theorem doAdopt_peerActive (hp : s.dsc.part = .ready) (ha : arg.toNat < 32 ∨ arg = 0xFF)
    (hs : (s.port p.peer).state = .active) : doAdopt p arg s = (s, .bare .peerActive) := by
  rw [doAdopt, inReady_of_ready hp]
  rcases ha with ha | rfl
  · simp [unitOf, ha, hs]
  · simp [unitOf, hs]

theorem doAdopt_badArg (hp : s.dsc.part = .ready) (ha : 32 ≤ arg.toNat) (hf : arg ≠ 0xFF) :
    doAdopt p arg s = (s, .bare .badArg) := by
  rw [doAdopt, inReady_of_ready hp, DirectoryCommands.unitOf_of_above ha]
  exact if_neg hf

/-- ADOPT of one unit while the peer is LAPSED. -/
theorem doAdopt_unit (hp : s.dsc.part = .ready) (ha : names arg u) (hl : (s.port p.peer).state = .lapsed) :
    doAdopt p arg s = if (s.ctx u).owner = some p.peer then (adoptCounted p u s, adoptedCount 1) else (s, .bare .notOwner) := by
  rw [doAdopt, inReady_of_ready hp, unitOf_names ha]
  exact if_pos hl

theorem doAdopt_all (hp : s.dsc.part = .ready) (hl : (s.port p.peer).state = .lapsed) :
    doAdopt p 0xFF s = adoptAll p s := by
  rw [doAdopt, inReady_of_ready hp, DirectoryCommands.unitOf_of_above (by decide)]
  simp [hl]

theorem exec_adopt_unit (h : s.takes p 0x06 [arg]) (ha : names arg u) (hp : (s.judged p 0x06 [arg]).dsc.part = .ready)
    (hl : ((s.judged p 0x06 [arg]).port p.peer).state = .lapsed)
    (ho : ((s.judged p 0x06 [arg]).ctx u).owner = some p.peer) :
    exec (.adopt p arg) s = .next (respond p { code := .ok, data := [1] } (adoptCounted p u (s.judged p 0x06 [arg]))) :=
  exec_adopt h ((doAdopt_unit hp ha hl).trans (if_pos ho))

/-! ### One context, by its state -/

/-- ADOPT of a context on the link (R144). -/
theorem adoptContext_onLink (h : (s.ctx u).onLink) : adoptContext p u s =
    (s.modStopQ (fun l => if (s.ctx u).state = .disconnected ∧ (s.ctx u).stopQueued = false then l ++ [u] else l)).modCtx u
      (fun x => { x with owner := some p, adopted := true, discard := false, halt := some (x.halt.getD .adopt),
                         stopQueued := x.stopQueued || decide (x.state = .disconnected) }) := by
  have hlink : adoptContext p u s =
      haltOnLink u .adopt (s.modCtx u (fun c => { c with owner := some p, adopted := true, discard := false })) := by
    rcases h with h | h | h <;> simp [adoptContext, h]
  rw [hlink, haltOnLink_eq, modStopQ_modCtx, modCtx_modCtx]
  simp only [ctx_modCtx, if_true]
  rfl

/-- What ADOPT makes of a QUEUED context before its order ends (R144). -/
def adoptedQueued (p : Port) (c : Context) : Context :=
  { c with owner := some p, adopted := true, discard := false, unitStatus := none }

theorem adoptContext_queued (h : (s.ctx u).state = .queued) :
    adoptContext p u s = endOrder u 0 (s.modCtx u (adoptedQueued p)) := by
  simp only [adoptContext, h]
  rfl

/-- ADOPT of a QUEUED context ends its order with a record of the adopter's (R144). -/
theorem adoptContext_queued_ended {a : Word} (h : (s.ctx u).state = .queued) (ha : (s.ctx u).descAddr = some a) :
    ended u p
      { unit := u, owner := p, lastDesc := a, resume := a + 8, residual := 0,
        conds := closedWith { s.ctx u with adopted := true } (s.ctx u).conds, status := none }
      (s.modCtx u (adoptedQueued p)) (adoptContext p u s) := by
  have hself : (s.modCtx u (adoptedQueued p)).ctx u = adoptedQueued p (s.ctx u) := by simp
  have hend := endOrder_ended (s.modCtx u (adoptedQueued p)) u p 0 (by rw [hself]; rfl)
  have hrec : ((s.modCtx u (adoptedQueued p)).ctx u).compose u p 0 =
      { unit := u, owner := p, lastDesc := a, resume := a + 8, residual := 0,
        conds := closedWith { s.ctx u with adopted := true } (s.ctx u).conds, status := none } := by
    rw [hself, Context.compose, finalConds_eq]
    simp [adoptedQueued, ha, closedWith]
  rw [adoptContext_queued h, ← hrec]
  exact hend

theorem adoptContext_held (h : (s.ctx u).state = .held) : adoptContext p u s = adoptHeld p u s := by
  simp only [adoptContext, h]
  rfl

theorem enqueue_modCtx (b : RecordBody) (f : Context → Context) : enqueue p b (s.modCtx u f) = (enqueue p b s).modCtx u f :=
  rfl

theorem setHeldList_modCtx (l : List UnitAddr) (f : Context → Context) :
    (s.modCtx u f).setHeldList p l = (s.setHeldList p l).modCtx u f := rfl

theorem modSelectQ_modCtx (g : List UnitAddr → List UnitAddr) (f : Context → Context) :
    (s.modCtx u f).modSelectQ g = (s.modSelectQ g).modCtx u f := rfl

/-- The record of a HELD order as the adopter has it (R145). -/
def adoptedRecord (p : Port) (r : Completion) : Completion := { r with owner := p, conds := { r.conds with adopted := true } }

/-- The peer's held list without the adopted context. -/
def heldAway (p : Port) (u : UnitAddr) (s : State) : State := s.setHeldList p.peer (without u (s.heldList p.peer))

theorem roomIn_heldAway : roomIn (heldAway p u s) p ↔ roomIn s p := by simp [roomIn, heldAway]

theorem adoptHeld_eq {r : Completion} (hr : (s.ctx u).heldRecord = some r) : adoptHeld p u s =
    let s1 := (heldAway p u s).modCtx u (fun c => { c with owner := some p, adopted := true })
    if s1.queueFull p then
      (s1.modCtx u (fun c => { c with heldRecord := some (adoptedRecord p r) })).setHeldList p (s1.heldList p ++ [u])
    else goIdle u (enqueue p (.completion (adoptedRecord p r)) s1) := by
  simp only [adoptHeld, hr]
  rfl

/-- ADOPT of a HELD context whose record the adopter's queue has room for (R145). -/
theorem adoptHeld_placed {r : Completion} (hr : (s.ctx u).heldRecord = some r) (hg : (s.ctx u).seg = none) (hroom : roomIn s p) :
    adoptHeld p u s = (enqueue p (.completion (adoptedRecord p r)) (heldAway p u s)).modCtx u (fun _ => {}) := by
  have hfull : ((heldAway p u s).modCtx u (fun c => { c with owner := some p, adopted := true })).queueFull p = false :=
    (queueFull_eq_false _ p).mpr (roomIn_heldAway.mpr hroom)
  rw [adoptHeld_eq hr]
  simp only [hfull, Bool.false_eq_true, if_false]
  rw [goIdle, ceaseSegment_of_no_segment (by simp [heldAway, hg]), enqueue_modCtx, modCtx_modCtx]

/-- ADOPT of a HELD context whose record the adopter's queue has no room for (R145). -/
theorem adoptHeld_held {r : Completion} (hr : (s.ctx u).heldRecord = some r) (hroom : ¬ roomIn s p) :
    adoptHeld p u s = ((heldAway p u s).setHeldList p (s.heldList p ++ [u])).modCtx u
      (fun c => { c with owner := some p, adopted := true, heldRecord := some (adoptedRecord p r) }) := by
  have hfull : ((heldAway p u s).modCtx u (fun c => { c with owner := some p, adopted := true })).queueFull p = true :=
    (queueFull_eq_true _ p).mpr (mt roomIn_heldAway.mp hroom)
  have hlist : ((heldAway p u s).modCtx u (fun c => { c with owner := some p, adopted := true })).heldList p = s.heldList p := by
    simp [heldAway]
  rw [adoptHeld_eq hr]
  simp only [hfull, if_true, hlist, modCtx_modCtx]
  rfl

/-- Settles O22: the checks of ADOPT, then what becomes of a context on the link, a QUEUED one and a HELD one. -/
theorem adoptTakesOverTheLapsedPeersOrders : Obligations.AdoptTakesOverTheLapsedPeersOrders := by
  refine ⟨fun s p arg h => ?checks, fun s p arg u h ha => ?onLink, fun s p arg u a h ha => ?queued,
    fun s p arg u r h ha => ?held⟩
  case checks =>
    refine ⟨fun hp => exec_adopt h (inReady_of_not_ready hp), fun hp hx hf => exec_adopt h (doAdopt_badArg hp hx hf),
      fun hp hx hs => exec_adopt h (doAdopt_peerActive hp hx hs), fun u hp hu hl ho => ?_⟩
    exact exec_adopt h ((doAdopt_unit hp hu hl).trans (if_neg ho))
  case onLink =>
    intro b c hp hl ho hlink joins
    rw [exec_adopt_unit h ha hp hl ho, adoptCounted, adoptContext_onLink hlink]
  case queued =>
    intro b c hp hl ho hq hg hd hn r q
    have hgq : ((b.modCtx u (adoptedQueued p)).ctx u).seg = none := by rw [ctx_modCtx, if_pos rfl]; exact hg
    have hdq : ((b.modCtx u (adoptedQueued p)).ctx u).discard = false := by rw [ctx_modCtx, if_pos rfl]; rfl
    have hlnk : (adoptContext p u b).lnk = b.lnk := by rw [adoptContext_queued hq, endOrder_lnk, modCtx_lnk]
    obtain ⟨-, hplaced, hheld⟩ := adoptContext_queued_ended (p := p) hq hd
    have run := exec_adopt_unit h ha hp hl ho
    refine ⟨fun hr => ?_, fun hr => ⟨_, run, ?_⟩⟩
    · rw [run, adoptCounted, endedPlaced_eq (hplaced hdq hr) hlnk hgq hn, modSelectQ_modCtx, enqueue_modCtx, modCtx_modCtx]
      rfl
    · have hself : (adoptCounted p u b).ctx u = (adoptContext p u b).ctx u := by simp [adoptCounted]
      obtain ⟨hctx, -⟩ := hheld hdq hr
      refine ⟨?_, ?_⟩
      · have hstate := endedHeld_eq (hheld hdq hr) hlnk hgq hn
        rw [modSelectQ_modCtx, setHeldList_modCtx, modCtx_modCtx] at hstate
        rw [hself]
        exact congrArg (fun x => x.modPort p.peer (fun x => { x with adoptedAway := x.adoptedAway + 1 })) hstate
      · rw [hself, hctx]
        exact ⟨rfl, by rw [ctx_modCtx, if_pos rfl]; rfl, rfl, rfl, rfl⟩
  case held =>
    intro b hp hl ho hh hr hg r1 q
    have run := exec_adopt_unit h ha hp hl ho
    refine ⟨fun hroom => ?_, fun hroom => ?_⟩
    · rw [run, adoptCounted, adoptContext_held hh, adoptHeld_placed hr hg hroom]
      rfl
    · rw [run, adoptCounted, adoptContext_held hh, adoptHeld_held hr hroom]
      rfl

/-! ### ADOPT ALL -/

/-- The order of an owner's context ends without a change to the peer's queue or to a page's tag. -/
theorem endOrder_peer (n : Nat) (ho : (s.ctx u).owner = some p) : (endOrder u n s).queue p.peer = s.queue p.peer ∧
    (∀ q, ((endOrder u n s).page q).tag = (s.page q).tag) ∧
      (((endOrder u n s).ctx u).owner = none ∨ ((endOrder u n s).ctx u).owner = some p) := by
  obtain ⟨hdropped, hplaced, hheld⟩ := endOrder_ended s u p n ho
  have htag : ∀ {t}, endFrame u s t → ∀ q, (t.page q).tag = (s.page q).tag := by
    rintro t ⟨-, -, -, -, -, hpage, -⟩ q
    rw [hpage q]
  cases hd : (s.ctx u).discard with
  | true =>
    obtain ⟨hctx, hrcm, hf⟩ := hdropped hd
    exact ⟨by rw [State.queue, hrcm]; rfl, htag hf, .inl (by rw [hctx])⟩
  | false =>
    by_cases hr : roomIn s p
    · obtain ⟨-, -, hctx, hq, -, -, hf⟩ := hplaced hd hr
      exact ⟨hq, htag hf, .inl (by rw [hctx])⟩
    · obtain ⟨hctx, -, hq, -, hf⟩ := hheld hd hr
      exact ⟨by rw [State.queue, hq]; rfl, htag hf, .inr (by rw [hctx]; exact ho)⟩

theorem adoptContext_queued_peer (h : (s.ctx u).state = .queued) : (adoptContext p u s).queue p.peer = s.queue p.peer ∧
    (∀ q, ((adoptContext p u s).page q).tag = (s.page q).tag) ∧
      (((adoptContext p u s).ctx u).owner = none ∨ ((adoptContext p u s).ctx u).owner = some p) := by
  rw [adoptContext_queued h]
  have hpeer := endOrder_peer (s := s.modCtx u (adoptedQueued p)) (p := p) (u := u) 0 (by rw [ctx_modCtx, if_pos rfl]; rfl)
  simpa using hpeer

/-- What ADOPT leaves alone: LNK, the directory controller, the store, the ports, the peer's queue and the pages' tags. -/
structure OthersKept (p : Port) (s t : State) : Prop where
  lnk : t.lnk = s.lnk
  dsc : t.dsc = s.dsc
  store : t.str.store = s.str.store
  port : ∀ x, t.port x = s.port x
  queue : t.queue p.peer = s.queue p.peer
  tag : ∀ q, (t.page q).tag = (s.page q).tag

theorem adoptContext_others (p : Port) (u : UnitAddr) (s : State) : OthersKept p s (adoptContext p u s) := by
  rcases state_cases (s.ctx u) with h | h | h | h
  · rw [show adoptContext p u s = s by simp [adoptContext, h]]
    exact ⟨rfl, rfl, rfl, fun _ => rfl, rfl, fun _ => rfl⟩
  · obtain ⟨hq, htag, -⟩ := adoptContext_queued_peer (p := p) h
    refine ⟨?_, ?_, ?_, fun x => ?_, hq, htag⟩ <;> rw [adoptContext_queued h] <;> simp
  · rw [adoptContext_held h]
    refine ⟨adoptHeld_lnk s p u, adoptHeld_dsc s p u, adoptHeld_store s p u, fun x => adoptHeld_port s p x u, ?_, fun q => ?_⟩
    all_goals
      unfold adoptHeld
      dsimp only
      (repeat' split) <;> simp [goIdle_page]
  · rw [adoptContext_onLink h]
    exact ⟨rfl, rfl, rfl, fun _ => rfl, rfl, fun _ => rfl⟩

theorem adoptContext_owner (h : (s.ctx u).state ≠ .idle) : ((adoptContext p u s).ctx u).owner ≠ some p.peer := by
  have hne : ∀ x, x = none ∨ x = some p → x ≠ some p.peer := by
    rintro x (rfl | rfl)
    · exact nofun
    · exact fun hx => ne_peer p (Option.some.inj hx)
  refine hne _ ?_
  rcases state_cases (s.ctx u) with hs | hs | hs | hs
  · exact absurd hs h
  · obtain ⟨-, -, ho⟩ := adoptContext_queued_peer (p := p) hs
    exact ho
  · rw [adoptContext_held hs]
    unfold adoptHeld
    dsimp only
    (repeat' split) <;> simp
  · rw [adoptContext_onLink hs]
    simp

/-- The contexts of the peer, adopted one after another (R143). -/
theorem foldl_adoptCounted_spec : ∀ (l : List UnitAddr) (s : State), l.Nodup → (∀ v ∈ l, (s.ctx v).state ≠ .idle) →
    (∀ v ∉ l, (l.foldl (fun s u => adoptCounted p u s) s).ctx v = s.ctx v) ∧
      (∀ v ∈ l, ((l.foldl (fun s u => adoptCounted p u s) s).ctx v).owner ≠ some p.peer) ∧
      (l.foldl (fun s u => adoptCounted p u s) s).port p.peer =
        { s.port p.peer with adoptedAway := (s.port p.peer).adoptedAway + l.length }
  | [], s, _, _ => ⟨fun _ _ => rfl, nofun, rfl⟩
  | u :: l, s, hl, hs => by
    obtain ⟨hu, hl⟩ := List.nodup_cons.mp hl
    have hother : ∀ v, v ≠ u → (adoptCounted p u s).ctx v = s.ctx v := fun v hv => adoptCounted_ctx_of_ne p hv
    have hself : ((adoptCounted p u s).ctx u).owner ≠ some p.peer := by
      simpa [adoptCounted] using adoptContext_owner (hs u List.mem_cons_self)
    have hport : (adoptCounted p u s).port p.peer =
        { s.port p.peer with adoptedAway := (s.port p.peer).adoptedAway + 1 } := by
      simp [adoptCounted, (adoptContext_others p u s).port]
    obtain ⟨h1, h2, h3⟩ := foldl_adoptCounted_spec l (adoptCounted p u s) hl fun v hv => by
      rw [hother v (ne_of_mem_of_not_mem hv hu)]
      exact hs v (List.mem_cons_of_mem u hv)
    rw [List.foldl_cons]
    refine ⟨fun v hv => ?_, fun v hv => ?_, ?_⟩
    · rw [List.mem_cons, not_or] at hv
      rw [h1 v hv.2, hother v hv.1]
    · rcases List.mem_cons.mp hv with rfl | hv
      · rwa [h1 v hu]
      · exact h2 v hv
    · rw [h3, hport, List.length_cons, Nat.add_right_comm, Nat.add_assoc]

/-- Settles O23: the contexts of the peer are adopted one by one, and no other is touched. -/
theorem adoptAllTakesEveryContextOfThePeer : Obligations.AdoptAllTakesEveryContextOfThePeer := by
  refine ⟨fun s p arg u h ha hp hl ho => exec_adopt_unit h ha hp hl ho, fun s p h => ?_⟩
  intro b us n hp hl
  have hkeep : ∀ {β : Type} (g : State → β), (∀ s u, g (adoptCounted p u s) = g s) →
      g (us.foldl (fun x u => adoptCounted p u x) b) = g b := fun g hg => foldl_keeps _ g hg us b
  have hmem : ∀ u, u ∈ us ↔ (b.ctx u).owner = some p.peer := fun u => mem_ownedBy
  refine ⟨_, exec_adopt h (doAdopt_all hp hl), rfl, (List.pairwise_lt_finRange 32).filter _, hmem, fun hc => ?_⟩
  have hidle : ∀ v ∈ us, (b.ctx v).state ≠ .idle := fun v hv hi => by
    have hnone := ((hc.1 v).1).mpr hi
    rw [(hmem v).mp hv] at hnone
    cases hnone
  obtain ⟨hother, howner, hport⟩ := foldl_adoptCounted_spec (p := p) us b (ownedBy_nodup p.peer b) hidle
  have hnone : ∀ u, ((us.foldl (fun x u => adoptCounted p u x) b).ctx u).owner ≠ some p.peer := fun u => by
    by_cases hu : u ∈ us
    · exact howner u hu
    · rw [hother u hu]
      exact mt (hmem u).mpr hu
  have hquiets := foldl_adoptCounted_quiets (D := .moving) p us b (ownedBy_nodup p.peer b) fun u hu => (hmem u).mp hu
  have hcontexts := hquiets.acts.keeps (P := State.contextsOk) (fun _ _ h => h.keeps_contextsOk) hc
  refine ⟨hnone, fun u hu => hother u (mt (hmem u).mp hu), hport, ?_, ?_, ?_, ?_, ?_, fun q => ?_⟩
  · obtain ⟨-, -, -, -, -, -, hheld, -⟩ := hcontexts
    exact List.eq_nil_iff_forall_not_mem.mpr fun u hu => hnone u (((hheld p.peer).2 u).mp hu).2
  · exact hkeep (·.queue p.peer) fun s u => (adoptContext_others p u s).queue
  · exact hkeep State.lnk fun s u => (adoptContext_others p u s).lnk
  · exact hkeep State.dsc fun s u => (adoptContext_others p u s).dsc
  · exact hkeep (·.str.store) fun s u => (adoptContext_others p u s).store
  · exact hkeep (fun s => (s.page q).tag) fun s u => (adoptContext_others p u s).tag q

end

end Sys2Proof.Adoption
end

section
/-! PROOFS. PORT_RESET clears its issuer's port, and LINK_RESET ends every order in progress. -/

namespace Sys2Proof.PortAndLinkReset

open Sys2Proof.Machine Sys2Proof.Laws Sys2Proof.StepActs Sys2Proof.UnitContexts Sys2Proof.PortClear Sys2Proof.PortFrames
  Sys2Proof.Segments Sys2Proof.LinkServes Sys2Proof.UseCounts

section
variable {s : State} {p : Port} {u : UnitAddr}

/-! ### PORT_RESET (R148) -/

theorem goIdle_str_of_no_segment (h : (s.ctx u).seg = none) : (goIdle u s).str = s.str := by
  rw [goIdle, ceaseSegment_of_no_segment h, modCtx_str]

/-- A context that has not reached the link holds no segment, so the pass over it leaves the page table alone. -/
theorem portResetContext_str (h : (s.ctx u).seg ≠ none → (s.ctx u).onLink) : (portResetContext u s).str = s.str := by
  have hseg : ¬ (s.ctx u).onLink → (s.ctx u).seg = none := fun hl => not_not.mp fun hg => hl (h hg)
  rcases state_cases (s.ctx u) with hs | hs | hs | hs
  · rw [portResetContext_of_idle hs]
  · have hg := hseg (by simp [Context.onLink, hs])
    rw [portResetContext_of_queued hs, goIdle_str_of_no_segment (by simpa [leaveQueues] using hg)]
    rfl
  · rw [portResetContext_of_held hs, goIdle_str_of_no_segment (hseg (by simp [Context.onLink, hs]))]
  · rw [portResetContext_of_onLink hs, dropped, Adoption.haltOnLink_eq]
    rfl

theorem clearAll_str : ∀ (l : List UnitAddr) (s : State), l.Nodup → (∀ u, (s.ctx u).seg ≠ none → (s.ctx u).onLink) →
    (clearAll l s).str = s.str
  | [], _, _, _ => rfl
  | u :: l, s, hl, h => by
    obtain ⟨-, hl⟩ := List.nodup_cons.mp hl
    have hnext : ∀ v, ((portResetContext u s).ctx v).seg ≠ none → ((portResetContext u s).ctx v).onLink := by
      intro v
      rw [portResetContext_ctx]
      split
      · rcases state_cases (s.ctx u) with hs | hs | hs | hs
        · rw [cleared_of_idle hs]; exact h u
        · rw [cleared_of_dropped (.inl hs)]; exact fun hx => absurd rfl hx
        · rw [cleared_of_dropped (.inr hs)]; exact fun hx => absurd rfl hx
        · rw [cleared_of_onLink hs]; exact fun _ => hs
      · exact h v
    rw [clearAll_cons, clearAll_str l _ hl hnext, portResetContext_str (h u)]

theorem clearPort_str (h : s.contextsOk) : (clearPort p s).str = s.str := by
  obtain ⟨hagrees, -⟩ := h
  rw [clearPort_eq]
  exact clearAll_str (s.ownedBy p) s (ownedBy_nodup p s) fun u => by
    obtain ⟨-, -, -, -, hseg, -⟩ := hagrees u
    exact hseg

/-- PORT_RESET before its notice (R148 steps 1 to 4). -/
def portCleared (p : Port) (s : State) : State := (clearPort p s).modPort p (fun x => { x with noticeLost := false, stamp := .void })

theorem offerNotice_str (x : Port) (c : NoticeCode) (n : Option Nat) : (offerNotice x c n s).str = s.str := by
  unfold offerNotice
  split <;> rfl

theorem clearPort_selectQ_of_ok (h : s.contextsOk) :
    (clearPort p s).ctb.selectQ = s.ctb.selectQ.filter (fun u => (s.ctx u).owner ≠ some p) := by
  obtain ⟨-, -, hq, -⟩ := h
  rw [clearPort_selectQ]
  exact List.filter_congr fun v hv => by simp [(hq v).mp hv]

theorem clearPort_stopQ_of_ok (h : s.contextsOk) : (clearPort p s).ctb.stopQ = s.ctb.stopQ ++ allUnits.filter (fun u =>
    (s.ctx u).owner = some p ∧ (s.ctx u).state = .disconnected ∧ (s.ctx u).stopQueued = false) := by
  obtain ⟨-, -, -, -, hq, -⟩ := h
  have hkeep : s.ctb.stopQ.filter (fun v => ¬ ((s.ctx v).owner = some p ∧ (s.ctx v).state = .queued)) = s.ctb.stopQ :=
    List.filter_eq_self.mpr fun v hv => by simp [((hq v).mp hv).1]
  rw [clearPort_stopQ, hkeep, State.ownedBy, List.filter_filter]
  congr 1
  exact List.filter_congr fun v _ => by simp [and_comm, and_assoc, Bool.and_assoc]

/-- Settles O24: the pass over the contexts of the port, its queue emptied, and the notice to the peer. -/
theorem portResetClearsTheIssuersPort : Obligations.PortResetClearsTheIssuersPort := by
  intro s p h b hc
  let m := portCleared p b
  let t := offerNotice p.peer .peerReset none m
  have hctx : ∀ u, t.ctx u = if (b.ctx u).owner = some p then cleared (b.ctx u) else b.ctx u := fun u => by
    rw [offerNotice_ctx]
    exact (modPort_ctx _ _ _ u).trans (clearPort_ctx b p u)
  have hport : m.port p = { b.port p with noticeLost := false, stamp := .void } := by simp [m, portCleared, clearPort_port]
  have hpeer : m.port p.peer = b.port p.peer := by simp [m, portCleared, clearPort_port]
  obtain ⟨hoffer, hofferport⟩ := offerNotice_spec m p.peer .peerReset none
  obtain ⟨hq, hn, hsame⟩ := offerNotice_other m p.peer p .peerReset none (ne_peer p)
  refine ⟨t, congrArg _ (takeCommand_eq s p 0x10 [] _ h), fun u ho => ?_, fun u ho hs => ?_, fun u ho hs => ?_, fun u => ?_, ?_,
    ?_, ?_, ?_, ?_, ?_, ?_, ?_, ?_, ?_, ?_, ?_, ?_, ?_⟩
  · rw [hctx, if_neg ho]
  · rw [hctx, if_pos ho, cleared_of_dropped hs]
  · rw [hctx, if_pos ho, cleared_of_onLink hs]; rfl
  · rw [offerNotice_selectQ, show m.ctb.selectQ = _ from clearPort_selectQ_of_ok hc]
    simp
  · rw [offerNotice_selectQ]; exact clearPort_selectQ_of_ok hc
  · rw [offerNotice_stopQ]; exact clearPort_stopQ_of_ok hc
  · rw [hq]; exact (clearPort_queue b p p).trans (if_pos rfl)
  · rw [hn]; exact (clearPort_seqNo b p p).trans (if_pos rfl)
  · rw [offerNotice_heldList]; exact (clearPort_heldList b p p).trans (if_pos rfl)
  · rw [offerNotice_heldList]; exact (clearPort_heldList b p p.peer).trans (if_neg (peer_ne p))
  · rw [hsame, hport]
  · exact noticeOffered_congr hoffer ((clearPort_queue b p p.peer).trans (if_neg (peer_ne p))).symm
      ((clearPort_seqNo b p p.peer).trans (if_neg (peer_ne p))).symm
      ((clearPort_heldList b p p.peer).trans (if_neg (peer_ne p))).symm (by rw [hpeer]) rfl rfl rfl
  · rw [hpeer] at hofferport
    exact hofferport
  · rw [offerNotice_lnk]; exact clearPort_lnk b p
  · rw [offerNotice_str]; exact clearPort_str hc
  · rw [offerNotice_dsc]; exact clearPort_dsc b p
  · rw [offerNotice_deferred]; exact clearPort_deferred b p
  · rw [offerNotice_pending]; exact clearPort_pending b p

/-! ### LINK_RESET (R110, R111) -/

theorem linkResetContext_of_ended (h : (s.ctx u).inProgress = false) : linkResetContext u s = s := by
  simp [linkResetContext, failOrder, h]

/-- The record of an order that LINK_RESET ends. -/
theorem linkResetContext_ended (ho : (s.ctx u).owner = some p) (hp : (s.ctx u).inProgress = true) :
    ended u p (linkResetRecord u p (s.ctx u)) s (linkResetContext u s) := by
  have hend := endOrder_ended (s.modCtx u (fun c => ({ c with unitStatus := none }).gain .linkReset)) u p (s.ctx u).residual
    (by simpa [Context.gain] using ho)
  have hrec : (({ s.ctx u with unitStatus := none } : Context).gain .linkReset).compose u p (s.ctx u).residual =
      linkResetRecord u p (s.ctx u) := by
    simp only [Context.compose, Context.gain, finalConds_eq, linkResetRecord]
    rfl
  simp only [ctx_modCtx, if_true, hrec] at hend
  simp only [linkResetContext, failOrder, hp, if_true]
  apply ended_of hend <;> intros <;> simp_all [Context.gain]

theorem foldl_linkReset_ctx_of_ended {v : UnitAddr} (x : Cond) : ∀ (l : List UnitAddr) (s : State), (s.ctx v).inProgress = false →
    (l.foldl (fun s u => failOrder u x s) s).ctx v = s.ctx v
  | [], _, _ => rfl
  | u :: l, s, h => by
    have hstep : (failOrder u x s).ctx v = s.ctx v := by
      by_cases hv : v = u
      · subst hv; simp [failOrder, h]
      · exact failOrder_ctx_of_ne x hv
    rw [List.foldl_cons, foldl_linkReset_ctx_of_ended x l _ (by rw [hstep]; exact h), hstep]

/-- The pass of LINK_RESET ends the orders in progress in turn. -/
theorem endedInTurn_foldl : ∀ (l : List UnitAddr) (s : State), l.Nodup →
    (∀ u ∈ l, (s.ctx u).inProgress = true → (s.ctx u).owner ≠ none) →
    endedInTurn (l.filter fun u => (s.ctx u).inProgress) s (l.foldl (fun s u => linkResetContext u s) s)
  | [], _, _, _ => rfl
  | u :: l, s, hl, ho => by
    obtain ⟨hu, hl⟩ := List.nodup_cons.mp hl
    have hother : ∀ v ∈ l, (linkResetContext u s).ctx v = s.ctx v := fun v hv =>
      failOrder_ctx_of_ne .linkReset (ne_of_mem_of_not_mem hv hu)
    have hrest := endedInTurn_foldl l (linkResetContext u s) hl fun v hv => by
      rw [hother v hv]
      exact ho v (List.mem_cons_of_mem u hv)
    have hfilter : (l.filter fun v => ((linkResetContext u s).ctx v).inProgress) = l.filter fun v => (s.ctx v).inProgress :=
      List.filter_congr fun v hv => by rw [hother v hv]
    rw [hfilter] at hrest
    rw [List.foldl_cons]
    cases hp : (s.ctx u).inProgress with
    | false =>
      rw [List.filter_cons_of_neg (by simp [hp])]
      rwa [linkResetContext_of_ended hp] at hrest ⊢
    | true =>
      obtain ⟨p, hown⟩ := Option.ne_none_iff_exists'.mp (ho u List.mem_cons_self hp)
      rw [List.filter_cons_of_pos (by simp [hp])]
      exact ⟨p, _, hown, linkResetContext_ended hown hp, linkResetContext_lnk s u, hrest⟩

theorem failOrder_tag (x : Cond) (q : PageNo) : ((failOrder u x s).page q).tag = (s.page q).tag := by
  unfold failOrder
  split
  · obtain ⟨-, -, -, -, -, hpage, -⟩ := endOrder_frame (s.modCtx u (fun c => ({ c with unitStatus := none }).gain x)) u
      (s.ctx u).residual
    rw [hpage q]
    rfl
  · rfl

/-- LINK_RESET before its notices (R110 steps 1 to 4). -/
@[irreducible] def linkResetEnded (s : State) : State := allUnits.foldl (fun s u => linkResetContext u s) (beginLinkReset s)

/-- LINK_RESET with the lists emptied, its notices not yet offered. -/
def linkResetEmptied (s : State) : State :=
  (((linkResetEnded s).modSelectQ (fun _ => [])).modStopQ (fun _ => [])).setDeferred []

theorem linkResetSteps_eq :
    linkResetSteps s = offerBoth .linkResetDone (some s.ordersInProgress) (linkResetEmptied s) := by
  unfold linkResetSteps linkResetEmptied linkResetEnded
  dsimp only

theorem linkResetEnded_inProgress (u : UnitAddr) : ((linkResetEnded s).ctx u).inProgress = false := by
  have h := foldl_failOrder_inProgress .linkReset allUnits (beginLinkReset s) allUnits_nodup u
  rw [if_pos (mem_allUnits u)] at h
  unfold linkResetEnded
  exact h

theorem linkResetEnded_ctx_of_ended (h : (s.ctx u).inProgress = false) : (linkResetEnded s).ctx u = s.ctx u := by
  have hkeep := foldl_linkReset_ctx_of_ended .linkReset allUnits (beginLinkReset s) h
  unfold linkResetEnded
  exact hkeep

theorem linkResetEnded_inTurn (h : ∀ u, (s.ctx u).inProgress = true → (s.ctx u).owner ≠ none) :
    endedInTurn (allUnits.filter fun u => (s.ctx u).inProgress) (beginLinkReset s) (linkResetEnded s) := by
  have hturn := endedInTurn_foldl allUnits (beginLinkReset s) allUnits_nodup fun u _ => h u
  unfold linkResetEnded
  exact hturn

theorem linkResetSteps_ctx (u : UnitAddr) : (linkResetSteps s).ctx u = (linkResetEnded s).ctx u := by
  rw [linkResetSteps_eq, offerBoth_ctx]; rfl

/-- A part of the state that no end of an order touches. -/
theorem linkResetEnded_keeps {β : Type} (g : State → β) (h : ∀ s u, g (linkResetContext u s) = g s) :
    g (linkResetEnded s) = g (beginLinkReset s) := by
  have hkeep := foldl_keeps (fun s u => linkResetContext u s) g h allUnits (beginLinkReset s)
  unfold linkResetEnded
  exact hkeep

theorem offerBoth_str (c : NoticeCode) (n : Option Nat) : (offerBoth c n s).str = s.str := by
  rw [offerBoth, offerNotice_str, offerNotice_str]

theorem offerNotice_heldLists (x : Port) (c : NoticeCode) (n : Option Nat) :
    (offerNotice x c n s).rcm.heldLists = s.rcm.heldLists := by
  unfold offerNotice
  split <;> rfl

theorem offerBoth_heldLists (c : NoticeCode) (n : Option Nat) : (offerBoth c n s).rcm.heldLists = s.rcm.heldLists := by
  rw [offerBoth, offerNotice_heldLists, offerNotice_heldLists]

/-- Contexts with no order in progress use no page (R62). -/
theorem uses_of_ended (hc : s.contextsOk) (hs : s.useCountsOk) (h : ∀ u, (s.ctx u).inProgress = false) (q : PageNo) :
    (s.page q).uses = 0 := by
  obtain ⟨hagrees, -⟩ := hc
  rw [(hs q).1, List.length_eq_zero_iff]
  refine List.filter_eq_nil_iff.mpr fun u _ hu => ?_
  obtain ⟨-, -, -, -, hseg, -⟩ := hagrees u
  have hl : (s.ctx u).onLink := hseg fun hg => by simp [Context.segIn, hg] at hu
  exact absurd ((inProgress_of_onLink hl).symm.trans (h u)) nofun

theorem doLinkReset_started (h : s.dsc.part ≠ .loading) : doLinkReset s = (linkResetSteps s, .bare .ok) :=
  inStarted_of_not_loading h

theorem exec_linkReset (h : s.takes p 0x11 []) : exec (.linkReset p) s =
    .next (respond p (doLinkReset (s.judged p 0x11 [])).2 (doLinkReset (s.judged p 0x11 [])).1) :=
  congrArg Host.Outcome.next (takeCommand_eq s p _ _ _ h)

/-- Settles O25: the orders in progress are ended in turn, the lists emptied, and the notice offered to both queues. -/
theorem linkResetEndsEveryOrderInProgress : Obligations.LinkResetEndsEveryOrderInProgress := by
  intro s p h b us
  refine ⟨fun hp => ?_, fun hp hc => ?_⟩
  · rw [exec_linkReset h, doLinkReset, inStarted_of_loading hp]; rfl
  have hrun : exec (.linkReset p) s = .next (answers p .ok (linkResetSteps b)) := by
    change _ = Host.Outcome.next (respond p (.bare .ok) (linkResetSteps (s.judged p 0x11 [])))
    rw [exec_linkReset h, doLinkReset_started hp]
  have howner : ∀ u, (b.ctx u).inProgress = true → (b.ctx u).owner ≠ none := fun u hu hn => by
    have hi := ((hc.1 u).1).mp hn
    simp [Context.inProgress, hi] at hu
  have hacts := linkResetSteps_acts (D := .moving) b
  have hcontexts := hacts.keeps (P := State.contextsOk) (fun _ _ h => h.keeps_contextsOk) hc
  have hended : ∀ u, ((linkResetSteps b).ctx u).inProgress = false := fun u => by
    rw [linkResetSteps_ctx, linkResetEnded_inProgress]
  have hlnk := linkResetSteps_lnk b
  refine ⟨_, hrun, hlnk, ?_, ?_, ?_, ⟨linkResetEnded b, ?_, linkResetSteps_ctx, ?_, ?_, fun x => ?_⟩,
    (List.pairwise_lt_finRange 32).filter _, fun hu => ?_, fun u => ?_, fun u hu => ?_, ?_, fun q => ?_, ?_, ?_, fun x => ?_⟩
  · rw [linkResetSteps_eq, offerBoth_selectQ]; rfl
  · rw [linkResetSteps_eq, offerBoth_stopQ]; rfl
  · rw [linkResetSteps_eq, offerBoth_deferred]; rfl
  · rw [hlnk]
    exact linkResetEnded_inTurn howner
  · rw [linkResetSteps_eq, offerBoth_str]; rfl
  · rw [linkResetSteps_eq, offerBoth_heldLists]; rfl
  · obtain ⟨hoffer, -⟩ := offerBoth_spec (linkResetEmptied b) .linkResetDone (some b.ordersInProgress) x
    rw [← linkResetSteps_eq, State.ordersInProgress] at hoffer
    exact noticeOffered_congr hoffer rfl rfl rfl rfl rfl rfl rfl
  · exact uses_of_ended hcontexts (hacts.keeps (P := State.useCountsOk) (fun _ _ h => Act.keeps_useCountsOk h) hu) hended
  · have hstate := hended u
    cases hst : ((linkResetSteps b).ctx u).state <;> simp [Context.inProgress, hst] at hstate ⊢
  · rw [linkResetSteps_ctx, linkResetEnded_ctx_of_ended hu]
  · rw [linkResetSteps_eq, offerBoth_store]
    exact linkResetEnded_keeps (·.str.store) fun s u => failOrder_store s u .linkReset
  · rw [linkResetSteps_eq, offerBoth_page]
    exact linkResetEnded_keeps (fun s => (s.page q).tag) fun s u => failOrder_tag .linkReset q
  · exact linkResetSteps_dsc b
  · rw [linkResetSteps_eq, offerBoth_pending]
    exact linkResetEnded_keeps State.pending fun s u => failOrder_pending s u .linkReset
  · obtain ⟨-, hport⟩ := offerBoth_spec (linkResetEmptied b) .linkResetDone (some b.ordersInProgress) x
    have hkeep : (linkResetEnded b).port x = b.port x :=
      linkResetEnded_keeps (·.port x) fun s u => failOrder_port s u .linkReset x
    rw [← linkResetSteps_eq] at hport
    exact hport.trans (by rw [← hkeep]; rfl)

end

end Sys2Proof.PortAndLinkReset
end

section
/-! PROOFS. PART_RESET and its agreement window, the port timers, and the grants of the link. -/

namespace Sys2Proof.TimersAndGrants

open Sys2Proof.Machine Sys2Proof.Laws Sys2Proof.UnitContexts Sys2Proof.PortFrames Sys2Proof.PortAndLinkReset
  Sys2Proof.LinkServes

section
variable {s : State} {p : Port}

/-! ### PART_RESET (R164 to R166) -/

theorem exec_partReset (h : s.takes p 0x12 []) : exec (.partReset p) s =
    .next (respond p (doPartReset p (s.judged p 0x12 [])).2 (doPartReset p (s.judged p 0x12 [])).1) :=
  congrArg Host.Outcome.next (takeCommand_eq s p _ _ _ h)

theorem isSet_iff (x : Stamp) : x.isSet = true ↔ x ≠ .void := by cases x <;> simp [Stamp.isSet]

theorem doPartReset_pending (hp : s.dsc.part ≠ .loading) (ha : (s.port p.peer).state = .active)
    (hv : (s.port p.peer).stamp = .void) : doPartReset p s = (s.modPort p (fun x =>
      { x with stamp := .set (.running ((s.port p).leasePeriod.toNat * 10000)) }), .bare .pending) := by
  have htens : Timer.tens (s.port p).leasePeriod = .running ((s.port p).leasePeriod.toNat * 10000) := by
    rw [Timer.tens, Timer.ms, Nat.mul_assoc]
  rw [doPartReset, inStarted_of_not_loading hp, if_neg (by simp [ha, hv, Stamp.isSet]), ← htens]
  exact congrArg (·, _) (modPort_congr s p rfl)

theorem doPartReset_agrees (hp : s.dsc.part ≠ .loading)
    (h : (s.port p.peer).state = .lapsed ∨ (s.port p.peer).stamp ≠ .void) :
    doPartReset p s = (agreeReset p s, .bare .ok) := by
  rw [doPartReset, inStarted_of_not_loading hp]
  exact if_pos (h.imp_right (isSet_iff _).mpr)

theorem stopTimers_eq (x : PortIf) : x.stopTimers = { x with
    lease := .stopped, stamp := match x.stamp with | .void => .void | .set _ => .set .stopped } := by
  rw [PortIf.stopTimers]
  cases x.stamp <;> rfl

theorem agreeReset_port (x : Port) : (agreeReset p s).port x = { (s.port x).stopTimers with
    receiver := if x = p then (s.port p).receiver else { state := .ignoring, bytes := [], count := 0, response := none } } := by
  rcases eq_or_eq_peer p x with rfl | rfl
  · simp [agreeReset, ignoreFrames, State.modReceiver, PortIf.stopTimers]
  · simp [agreeReset, ignoreFrames, State.modReceiver, PortIf.stopTimers, Receiver.unselected]

/-- Settles O28: the stamp of a request, and the agreement with the timers stopped and the peer's receiver ignoring. -/
theorem partResetAgreesOrStampsTheRequest : Obligations.PartResetAgreesOrStampsTheRequest := by
  intro s p h b
  refine ⟨fun hp => ?_, fun hp ha hv => ?_, fun hp hx => ⟨agreeReset p b, ?_, rfl, fun x => ?_, rfl, rfl, rfl, rfl, rfl⟩⟩
  · rw [exec_partReset h, doPartReset, inStarted_of_loading hp]; rfl
  · rw [exec_partReset h, doPartReset_pending hp ha hv]; rfl
  · rw [exec_partReset h, doPartReset_agrees hp hx]; rfl
  · rw [agreeReset_port, stopTimers_eq] <;> rfl

/-- Settles O29: in the agreement window a frame taken is discarded. -/
theorem noCommandRunsInTheAgreementWindow : Obligations.NoCommandRunsInTheAgreementWindow := by
  intro c p code args s hr hw hc ha
  obtain ⟨hexec, -⟩ := exec_row (s := s) hr hw
  rw [hexec, takeCommand, takeFrame, if_pos hc, if_neg ha]
  rfl

/-! ### The port timers (R138, R164) -/

theorem offerNotice_same (x : Port) (c : NoticeCode) (n : Option Nat) : sameButPortsAndQueues s (offerNotice x c n s) := by
  unfold offerNotice
  split <;> exact ⟨rfl, rfl, rfl, rfl, rfl, rfl⟩

/-- The port LAPSED, PEER_LAPSED not yet offered (R138). -/
def lapsedPort (p : Port) (s : State) : State := s.modPort p (fun x =>
  { x with state := .lapsed, lease := .stopped, lapseCount := min Config.maxLapses (x.lapseCount + 1), adoptedAway := 0 })

/-- Settles O30: the lapse with its notice, and the stamp made void. -/
theorem thePortTimersLapseThePortAndVoidTheStamp : Obligations.ThePortTimersLapseThePortAndVoidTheStamp := by
  refine ⟨fun s p hr ha => ?_, fun s p us hs => ?_⟩
  · obtain ⟨hoffer, hpeer⟩ := offerNotice_spec (lapsedPort p s) p.peer .peerLapsed none
    obtain ⟨hq, hn, hport⟩ := offerNotice_other (lapsedPort p s) p.peer p .peerLapsed none (ne_peer p)
    have hother : (lapsedPort p s).port p.peer = s.port p.peer := by simp [lapsedPort]
    rw [hother] at hpeer
    refine ⟨lapse p s, if_pos ⟨hr, ha⟩, offerNotice_same (s := lapsedPort p s) p.peer .peerLapsed none,
      offerNotice_dsc (lapsedPort p s) p.peer .peerLapsed none, hport.trans ?_,
      noticeOffered_congr hoffer rfl rfl rfl (by rw [hother]) rfl rfl rfl, hq, hn, hpeer⟩
    simp [lapsedPort, Config.maxLapses]
  · exact if_pos (by rw [hs]; rfl)

/-! ### Grants (R88 to R91) -/

theorem targetFull_eq_false (u : UnitAddr) : s.targetFull u = false ↔ recallable s u := by
  unfold State.targetFull recallable
  cases ht : s.target u with
  | none => simp
  | some p => simp [queueFull_eq_false]

theorem recallOwed_eq_some {u : UnitAddr} {pre post : List UnitAddr} (hd : s.rcm.deferred = pre ++ u :: post)
    (hpre : ∀ v ∈ pre, ¬ recallable s v) (hu : recallable s u) : s.recallOwed = some u := by
  have hfull : ∀ v ∈ pre, s.targetFull v = true := fun v hv =>
    Bool.of_not_eq_false (mt (targetFull_eq_false v).mp (hpre v hv))
  have hnone : pre.find? (fun u => !s.targetFull u) = none := List.find?_eq_none.mpr fun v hv => by simp [hfull v hv]
  rw [State.recallOwed, hd, List.find?_append, hnone]
  simp [(targetFull_eq_false u).mpr hu]

theorem recallOwed_eq_none : s.recallOwed = none ↔ ∀ v ∈ s.rcm.deferred, ¬ recallable s v := by
  rw [State.recallOwed, List.find?_eq_none]
  refine forall₂_congr fun v _ => ?_
  rw [← targetFull_eq_false, Bool.not_eq_true']

theorem pollEligible_iff : s.pollEligible = true ↔ pollWanted s := by
  simp [State.pollEligible, pollWanted, imp_iff_not_or]

theorem nextGrant_halt : s.nextGrant = some .haltSelection ↔ s.lnk.link = .opened ∧ s.ctb.stopQ ≠ [] := by
  unfold State.nextGrant
  split_ifs <;> simp_all [Option.isSome_iff_ne_none]

theorem nextGrant_recall :
    s.nextGrant = some .recall ↔ s.lnk.link = .opened ∧ s.ctb.stopQ = [] ∧ s.recallOwed ≠ none := by
  unfold State.nextGrant
  split_ifs <;> simp_all [Option.isSome_iff_ne_none]

theorem nextGrant_poll : s.nextGrant = some .poll ↔
    s.lnk.link = .opened ∧ s.ctb.stopQ = [] ∧ s.recallOwed = none ∧ pollWanted s := by
  rw [← pollEligible_iff]
  unfold State.nextGrant
  split_ifs <;> simp_all [Option.isSome_iff_ne_none]

theorem nextGrant_selection : s.nextGrant = some .selection ↔
    s.lnk.link = .opened ∧ s.ctb.stopQ = [] ∧ s.recallOwed = none ∧ ¬ pollWanted s ∧ s.ctb.selectQ ≠ [] := by
  rw [← pollEligible_iff]
  unfold State.nextGrant
  split_ifs <;> simp_all [Option.isSome_iff_ne_none]

theorem execHaltSelectionGrant_of {u : UnitAddr} {rest : List UnitAddr} (hg : s.nextGrant = some .haltSelection)
    (hq : s.ctb.stopQ = u :: rest) : execHaltSelectionGrant s =
      .next (openGrant .haltSelection .haltSelection (some u) (.sel u 0xFF .short .none)
        ((enterSelecting u (s.modStopQ (fun _ => rest))).setAnswer u none)) := by
  simp only [execHaltSelectionGrant, hg, hq]

theorem execHaltSelectionGrant_of_not (h : s.nextGrant ≠ some .haltSelection) : execHaltSelectionGrant s = .next s := by
  unfold execHaltSelectionGrant
  split
  · next hg _ => exact absurd hg h
  · rfl

theorem execRecallGrant_of {u : UnitAddr} (hg : s.nextGrant = some .recall) (hu : s.recallOwed = some u) :
    execRecallGrant s = .next (openGrant .recall .recall (some u) (.rcl u)
      ((if (s.ctx u).state = .disconnected then s.modCtx u (fun c => { c with silence := .stopped }) else s).setAnswer
        u none)) := by
  simp only [execRecallGrant, hg, hu]

theorem execRecallGrant_of_not (h : s.nextGrant ≠ some .recall) : execRecallGrant s = .next s := by
  unfold execRecallGrant
  split
  · next hg _ => exact absurd hg h
  · rfl

/-- The silence timer of a DISCONNECTED context stops; any other context stays as it is. -/
theorem silenceStopped_eq (u : UnitAddr) :
    (if (s.ctx u).state = .disconnected then s.modCtx u (fun c => { c with silence := .stopped }) else s) =
      s.modCtx u (fun x => { x with silence := if x.state = .disconnected then .stopped else x.silence }) := by
  split
  · next h => exact modCtx_congr s u (by rw [if_pos h])
  · next h =>
    have hid : s.modCtx u (fun x => { x with silence := if x.state = .disconnected then .stopped else x.silence }) =
        s.modCtx u (fun _ => s.ctx u) := modCtx_congr s u (by rw [if_neg h])
    rw [hid, modCtx_id]

/-- Settles O31: the two kinds of grant that come first, and the rows that are not the next grant. -/
theorem haltSelectionsAndRecallsAreGrantedFirst : Obligations.HaltSelectionsAndRecallsAreGrantedFirst := by
  refine ⟨fun s => ⟨fun u rest ho hq => ?_, fun h => ?_⟩, fun s => ⟨fun pre u post ho hq hd hpre hu => ?_, fun h => ?_⟩⟩
  · exact execHaltSelectionGrant_of (nextGrant_halt.mpr ⟨ho, by rw [hq]; exact nofun⟩) hq
  · refine execHaltSelectionGrant_of_not fun hg => ?_
    obtain ⟨ho, hq⟩ := nextGrant_halt.mp hg
    exact h.elim (fun h => h ho) hq
  · have howed := recallOwed_eq_some hd hpre hu
    have hrun := execRecallGrant_of (nextGrant_recall.mpr ⟨ho, hq, by rw [howed]; exact nofun⟩) howed
    rw [silenceStopped_eq] at hrun
    exact hrun
  · refine execRecallGrant_of_not fun hg => ?_
    obtain ⟨ho, hq, hr⟩ := nextGrant_recall.mp hg
    exact h.elim (fun h => h ho) fun h => h.elim (fun h => h hq) fun h => hr (recallOwed_eq_none.mpr h)

theorem execSelectionGrant_of {u : UnitAddr} {rest : List UnitAddr} (hg : s.nextGrant = some .selection)
    (hq : s.ctb.selectQ = u :: rest) : execSelectionGrant s =
      .next (openGrant .selection .selection (some u) (.sel u (codeOf (s.ctx u)) (s.mode u) (directionOf (s.ctx u)))
        ((enterSelecting u (s.modSelectQ (fun _ => rest))).setAnswer u none)) := by
  simp only [execSelectionGrant, hg, hq]

theorem execSelectionGrant_of_not (h : s.nextGrant ≠ some .selection) : execSelectionGrant s = .next s := by
  unfold execSelectionGrant
  split
  · next hg _ => exact absurd hg h
  · rfl

theorem directionOf_eq {c : Context} {d : Descriptor} (h : c.desc = some d) : directionOf c =
    if d.kind = .input then .input else if d.kind = .output then .output else .none := by
  unfold directionOf
  rw [h]
  cases hk : d.kind <;> simp [hk]

/-- Settles O32: a poll, then a selection with its frame, and the rows that are not the next grant. -/
theorem pollsAndSelectionsAreGrantedInTurn : Obligations.PollsAndSelectionsAreGrantedInTurn := by
  refine ⟨fun s => ⟨fun ho hq hd hp => ?_, fun h => ?_⟩, fun s => ⟨fun u rest d e ho hq hd hp hs hdesc he => ?_, fun h => ?_⟩⟩
  · exact if_pos (nextGrant_poll.mpr ⟨ho, hq, recallOwed_eq_none.mpr hd, hp⟩)
  · refine if_neg fun hg => ?_
    obtain ⟨ho, hq, hr, hp⟩ := nextGrant_poll.mp hg
    rcases h with h | h | ⟨v, hv, h⟩ | h
    · exact h ho
    · exact h hq
    · exact recallOwed_eq_none.mp hr v hv h
    · exact h hp
  · have hrun := execSelectionGrant_of
      (nextGrant_selection.mpr ⟨ho, hq, recallOwed_eq_none.mpr hd, hp, by rw [hs]; exact nofun⟩) hs
    have hcode : codeOf (s.ctx u) = d.code := by simp [codeOf, hdesc]
    have hmode : s.mode u = e.mode := by simp [State.mode, he]
    rw [hcode, hmode, directionOf_eq hdesc] at hrun
    exact hrun
  · refine execSelectionGrant_of_not fun hg => ?_
    obtain ⟨ho, hq, hr, hp, hs⟩ := nextGrant_selection.mp hg
    rcases h with h | h | ⟨v, hv, h⟩ | h | h
    · exact h ho
    · exact h hq
    · exact recallOwed_eq_none.mp hr v hv h
    · exact hp h
    · exact hs h

end

end Sys2Proof.TimersAndGrants
end

section
/-! PROOFS. The frames LNK sends, the frames it starts to receive, and the timers of an exchange and of a silent unit. -/

namespace Sys2Proof.LinkTimers

open Sys2Proof.Machine Sys2Proof.Laws Sys2Proof.StepActs Sys2Proof.UnitContexts Sys2Proof.Adoption

section
variable {s : State} {u : UnitAddr} {e : Exchange}

/-! ### Entry to DISCONNECTED (R9, R108) -/

theorem silenceStart_eq (s : State) (u : UnitAddr) : s.silenceStart u = fullSilence s u := by
  unfold State.silenceStart fullSilence State.silenceLimit
  cases s.entry u with
  | none => rfl
  | some x =>
    have htens : Timer.tens x.silence = .running (x.silence.toNat * 10000) := by
      rw [Timer.tens, Timer.ms, Nat.mul_assoc]
    simp only [← htens]

/-- The end of a SHORT-mode exchange, for a context that is not on the stop queue already (R9, R15). -/
theorem enterDisconnected_eq (h : (s.ctx u).stopQueued = false) : enterDisconnected u s = shortOver u s := by
  unfold enterDisconnected shortOver joinStop
  rw [silenceStart_eq]
  by_cases hh : (s.ctx u).halt = none
  · simp only [hh, ne_eq, not_true_eq_false, if_true, if_false, decide_false]
    exact modCtx_congr s u (by rw [← h])
  · simp [hh, h, modStopQ_modCtx]

theorem recallOver_eq (u : UnitAddr) (s : State) : recallOver u s = silenceRestarted u s := by
  rw [recallOver, silenceRestarted, silenceStart_eq]

theorem shortOver_modLnk (f : Lnk → Lnk) : shortOver u (s.modLnk f) = (shortOver u s).modLnk f := rfl

theorem silenceRestarted_modLnk (f : Lnk → Lnk) :
    silenceRestarted u (s.modLnk f) = (silenceRestarted u s).modLnk f := by
  unfold silenceRestarted
  by_cases h : (s.ctx u).state = .disconnected
  · simp [h]
    rfl
  · simp [h]

/-! ### The end of an exchange (R79, R80, R97, R108) -/

theorem endExchange_of_connection (hc : s.lnk.conn = some u) : endExchange e s = toHold s := by
  rw [endExchange, hc]

theorem endExchange_of_recall (hc : s.lnk.conn = none) (hu : e.unit = some u) (ho : e.opener = some .recall) :
    endExchange e s = silenceRestarted u (toOpened s) := by
  simp only [endExchange, hc, hu, ho, if_true, recallOver_eq]

theorem endExchange_of_short (hc : s.lnk.conn = none) (hu : e.unit = some u) (ho : e.opener ≠ some .recall)
    (hs : (s.ctx u).state = .connected) (hq : (s.ctx u).stopQueued = false) :
    endExchange e s = shortOver u (toOpened s) := by
  simp only [endExchange, hc, hu, if_neg ho, exchangeOver]
  rw [if_pos (by simpa using hs)]
  exact enterDisconnected_eq (by simpa using hq)

theorem endExchange_of_not_connected (hc : s.lnk.conn = none) (hu : e.unit = some u) (ho : e.opener ≠ some .recall)
    (hs : (s.ctx u).state ≠ .connected) : endExchange e s = toOpened s := by
  simp only [endExchange, hc, hu, if_neg ho, exchangeOver]
  exact if_neg (by simpa using hs)

/-- Where no LONG connection holds the link, its going to OPEN ends none. -/
theorem toOpened_of_no_connection (hc : s.lnk.conn = none) : toOpened s = s.modLnk (fun l =>
    { l with link := .opened, exchange := none, replyTimer := .stopped, gapTimer := .stopped }) := by
  simp only [toOpened, State.modLnk, ← hc]

/-! ### FRAME_SENT (R70 to R72) -/

theorem exec_frameSent_last (hl : s.lnk.link = .exchange) (he : s.lnk.exchange = some e) (hs : e.sending = true)
    (hr : s.lnk.reception = .none) (hm : e.more = []) : exec .frameSent s =
      if e.frame.callsForReply then
        .next (s.modLnk (fun l => { l with exchange := some { e with sending := false }, replyTimer := .running 100 }))
      else .next (endExchange e s) := by
  change execFrameSent s = _
  simp only [execFrameSent, hl, he, hs, hr, hm, and_self, if_true]
  rfl

theorem exec_frameSent_ends (hl : s.lnk.link = .exchange) (he : s.lnk.exchange = some e) (hs : e.sending = true)
    (hr : s.lnk.reception = .none) (hm : e.more = []) (hf : e.frame.callsForReply = false) :
    exec .frameSent s = .next (endExchange e s) := by
  rw [exec_frameSent_last hl he hs hr hm, hf]
  rfl

theorem exec_frameSent_more {f : CtlFrame} {fs : List CtlFrame} (hl : s.lnk.link = .exchange)
    (he : s.lnk.exchange = some e) (hs : e.sending = true) (hr : s.lnk.reception = .none) (hm : e.more = f :: fs) :
    exec .frameSent s = .next (s.modLnk (fun l => { l with exchange := some { e with frame := f, more := fs } })) := by
  change execFrameSent s = _
  simp only [execFrameSent, hl, he, hs, hr, hm, and_self, if_true]

theorem exec_frameSent_receiving (hl : s.lnk.link = .exchange) (he : s.lnk.exchange = some e)
    (hr : s.lnk.reception ≠ .none) : exec .frameSent s = .next s := by
  change execFrameSent s = _
  simp only [execFrameSent, hl, he, hr, and_false, if_false]

/-- Settles O33: the frame's kind decides between the reply timer and the end of the exchange, and the connection and the opener
decide how the exchange ends. -/
theorem aFrameSentStartsTheReplyTimerOrEndsTheExchange :
    Obligations.AFrameSentStartsTheReplyTimerOrEndsTheExchange := by
  refine ⟨fun s e hl he hs hr hm => ⟨fun hf => ?_, fun u hf hc => ?_, fun u v hf hc hv hst ho => ?_⟩,
    fun s e f fs => exec_frameSent_more, fun s e u hl he hs hr hm hf hc hu ho hst hq => ?_,
    fun s e u hl he hs hr hm hf hc hu ho => ?_, fun s e hl he hs hp => ⟨fun hr => ?_, fun hr => ⟨?_, ?_⟩⟩⟩
  · have hcalls : e.frame.callsForReply = true := by
      rcases hf with ⟨_, _, _, _, h⟩ | h | ⟨_, h⟩ | ⟨_, _, h⟩ | ⟨_, h⟩ <;> rw [h] <;> rfl
    rw [exec_frameSent_last hl he hs hr hm, hcalls]
    rfl
  · have hcalls : e.frame.callsForReply = false := by
      rcases hf with h | h | h | ⟨_, h⟩ <;> rw [h] <;> rfl
    rw [exec_frameSent_ends hl he hs hr hm hcalls, endExchange_of_connection hc]
    rfl
  · have hcalls : e.frame.callsForReply = false := by
      rcases hf with h | h | h | ⟨_, h⟩ <;> rw [h] <;> rfl
    rw [exec_frameSent_ends hl he hs hr hm hcalls, endExchange_of_not_connected hc hv ho hst,
      toOpened_of_no_connection hc]
    rfl
  · rw [exec_frameSent_ends hl he hs hr hm hf, endExchange_of_short hc hu (by rw [ho]; nofun) hst hq,
      toOpened_of_no_connection hc, shortOver_modLnk]
  · rw [exec_frameSent_ends hl he hs hr hm hf, endExchange_of_recall hc hu ho, toOpened_of_no_connection hc,
      silenceRestarted_modLnk]
  · simp [State.linkPair, hp, hl, he, hs, hr]
  · simp [State.linkPair, hp, hl, he, hr]
  · exact exec_frameSent_receiving hl he hr

/-! ### FRAME_START (R64, R72, R79) -/

/-- A frame that LNK does not wait for changes nothing but the end of its reception (R64). -/
theorem receiveFrame_unawaited {f : UnitFrame} (h : s.awaits = false) :
    receiveFrame f s = s.modLnk (fun l => { l with reception := .none }) := by
  rw [receiveFrame, h]
  rfl

theorem awaits_of_stopped (hr : s.lnk.replyTimer = .stopped) (hg : s.lnk.gapTimer = .stopped)
    (ha : s.lnk.reception ≠ .awaited) : s.awaits = false := by
  unfold State.awaits
  cases h : s.lnk.reception with
  | awaited => exact absurd h ha
  | ignored => rfl
  | none => simp [hr, hg, Timer.runs]

/-- The rows that are frames of a unit. -/
theorem linkFrame_of_row {c : Instr} (h : (∃ a st, c = .rsp a st) ∨ (∃ a m d, c = .reqInData a m d) ∨
    (∃ a m, c = .reqOutData a m) ∨ (∃ a m st, c = .reqStatus a m st) ∨ (∃ a b, c = .reqRepeat a b) ∨ (∃ a, c = .ack a) ∨
    (∃ a, c = .nak a) ∨ c = .corruptFrame) : ∃ f, linkFrame c = some f := by
  rcases h with ⟨_, _, rfl⟩ | ⟨_, _, _, rfl⟩ | ⟨_, _, rfl⟩ | ⟨_, _, _, rfl⟩ | ⟨_, _, rfl⟩ | ⟨_, rfl⟩ | ⟨_, rfl⟩ | rfl <;>
    exact ⟨_, rfl⟩

/-- Settles O34: the branches of FRAME_START, and the end of a frame that LNK does not await. -/
theorem aFrameIsHeardOnlyWhileATimerRuns : Obligations.AFrameIsHeardOnlyWhileATimerRuns := by
  refine ⟨fun s hp ht => ?_, fun s hr hg ha => ⟨fun hp => ?_, fun c hc => ?_⟩, fun s hp => ?_⟩
  · change execFrameStart s = _
    rw [execFrameStart, if_neg (by simp [hp]), if_pos (by simpa using ht)]
    rfl
  · change execFrameStart s = _
    rw [execFrameStart, if_neg (by simp [hp]), if_neg (by simp [hr, hg, Timer.runs]), if_neg ha]
    rfl
  · obtain ⟨f, hf⟩ := linkFrame_of_row hc
    rw [exec_linkFrame s hf, receiveFrame_unawaited (awaits_of_stopped hr hg ha)]
    rfl
  · exact if_pos hp

/-! ### The timers (R9, R72 to R74, R79) -/

/-- The exchange whose reply has not come, with one try more used (R73). -/
theorem exec_replyTimerExpiry (he : s.lnk.exchange = some e) (ht : s.lnk.replyTimer.runs = true) :
    exec .replyTimerExpiry s = .next (retryOrEnd e (s.modLnk (fun l => { l with replyTimer := .stopped }))) := by
  change execReplyTimerExpiry s = _
  simp only [execReplyTimerExpiry, ht, he, failedTry, Exchange.noting, Bool.or_false]

theorem retryOrEnd_again (hu : e.unit = some u) (ht : e.tries < 3)
    (hk : e.kind = .selection ∨ e.kind = .haltSelection ∨ e.kind = .recall ∨ e.kind = .dataOut ∨
      (e.kind = .request ∧ e.tries < 2)) : retryOrEnd e s = tryAgain e s := by
  unfold retryOrEnd
  rcases hk with hk | hk | hk | hk | ⟨hk, h2⟩
  case inr.inr.inr.inr => simp [hk, hu, Config.maxTries, show e.tries + 1 < 3 by omega]
  all_goals simp [hk, hu, Config.maxTries, ht]

theorem retryOrEnd_poll (hk : e.kind = .poll) : retryOrEnd e s = toOpened s := by
  unfold retryOrEnd
  rw [hk]

theorem exec_gapTimerExpiry (ht : s.lnk.gapTimer.runs = true) (hc : s.lnk.conn = some u) : exec .gapTimerExpiry s =
    .next (failExchange (requestExchange u (.stp .abandon u) 1 false) u .linkFault (abandonAnswer u none) s) := by
  change execGapTimerExpiry s = _
  simp only [execGapTimerExpiry, ht, hc]

theorem exec_silenceTimerExpiry (ht : (s.ctx u).silence.runs = true) (hs : (s.ctx u).state = .disconnected) :
    exec (.silenceTimerExpiry u) s = .next (haltOnLink u .timeout (s.modCtx u (fun c => { c with silence := .stopped }))) :=
  if_pos ⟨ht, hs⟩

/-- Settles O35: each timer's row by its exchange, its connection or its context. -/
theorem theLinkTimersRetryEndOrHaltAnOrder : Obligations.TheLinkTimersRetryEndOrHaltAnOrder := by
  refine ⟨fun s e u he ht h3 => ⟨fun hu hk => ?_, fun hk => ?_⟩, fun s u p a ht hc hst ha ho => ?_,
    fun s u ht hs => ⟨fun hh hq => ?_, fun hh hq => ?_⟩⟩
  · rw [exec_replyTimerExpiry he ht, retryOrEnd_again hu h3 hk]
    rfl
  · rw [exec_replyTimerExpiry he ht, retryOrEnd_poll hk]
    rfl
  · refine ⟨_, exec_gapTimerExpiry ht hc, failExchange_abandons s _ u _ _ rfl, ?_⟩
    exact failExchange_ended s _ u p a .linkFault _ ho (by simp [Context.inProgress, hst]) ha
  · rw [exec_silenceTimerExpiry ht hs, haltOnLink_eq]
    simp only [ctx_modCtx, if_true, hs, hq, and_self, modStopQ_modCtx, modCtx_modCtx]
    exact congrArg _ (modCtx_congr _ _ (by simp [halted, hh, hs]))
  · obtain ⟨cause, hc⟩ := Option.ne_none_iff_exists'.1 hh
    rw [exec_silenceTimerExpiry ht hs, haltOnLink_eq]
    simp only [ctx_modCtx, if_true, hs, hq, Bool.true_eq_false, and_false, if_false, modStopQ_modCtx, modCtx_modCtx]
    exact congrArg _ (modCtx_congr _ _ (by simp [halted, hc, hs, hq]))

end

end Sys2Proof.LinkTimers
end

section
/-! PROOFS. What the data operations of a context do: the lookahead, the segment that becomes current, and the replies to a
selection that rest on them. -/

namespace Sys2Proof.SegmentSteps

open Sys2Proof.Machine Sys2Proof.Laws Sys2Proof.StepActs Sys2Proof.UnitContexts Sys2Proof.LinkTimers

section
variable {s : State} {u : UnitAddr} {p : Port} {d : Descriptor} {g : Segment}

/-! ### Fetches and the lookahead (R25, R34, R35) -/

theorem pageOpen_congr {t : State} {q : PageNo} (h : (s.page q).tag = (t.page q).tag) :
    s.pageOpen p q = t.pageOpen p q := by
  rw [State.pageOpen, State.pageOpen, h]

/-- A fetch reads the store and the tags of the pages. -/
theorem fetch_of_tags {t : State} (store : s.str.store = t.str.store) (tags : ∀ q, (s.page q).tag = (t.page q).tag)
    (purpose : FetchFor) (p : Port) (a : Nat) : fetch purpose p s a = fetch purpose p t a := by
  have hd : ∀ x, s.descriptorAt x = t.descriptorAt x := fun x => by simp [State.descriptorAt, State.byteAt, store]
  have hr : ∀ x, fetchRead purpose p s x = fetchRead purpose p t x := fun x => by
    simp [fetchRead, pageOpen_congr (tags _), hd]
  have hf : ∀ n x, fetchFrom purpose p s n x = fetchFrom purpose p t n x := by
    intro n
    induction n with
    | zero => intro x; simp [fetchFrom, hr]
    | succ n ih => intro x; simp [fetchFrom, hr, ih]
  exact hf _ _

/-- The lookahead a segment fetch gives (R35). -/
def lookaheadOf (f : Fetched) : Lookahead :=
  match f.found with
  | some (d, a) => .present d a
  | none => .faulted

theorem wantsLookahead_iff {c : Context} (hd : c.desc = some d) (hg : c.seg = some g) : c.wantsLookahead = true ↔
    d.kind = .input ∧ d.link = .nextSegment ∧ c.lookahead = .absent ∧ c.halt = none ∧ g.remaining ≤ 16 := by
  simp [Context.wantsLookahead, hd, hg, Config.frameBytes, and_assoc]
  exact fun _ _ _ _ => ⟨of_decide_eq_true, decide_eq_true⟩

theorem testLookahead_of_undue (h : (s.ctx u).wantsLookahead = false) : testLookahead u s = s := by
  rw [testLookahead, h]
  rfl

theorem testLookahead_of_due (h : (s.ctx u).wantsLookahead = true) (ho : (s.ctx u).owner = some p) : testLookahead u s =
    s.modCtx u (fun c => { c with
      lookahead := lookaheadOf (fetch (.segment .input) p s (s.ctx u).nextDesc),
      jumps := (fetch (.segment .input) p s (s.ctx u).nextDesc).jumps }) := by
  simp only [testLookahead, h, ho, if_true, lookaheadOf]
  cases (fetch (.segment .input) p s (s.ctx u).nextDesc).found <;> rfl

/-! ### Segments (R31) -/

theorem dataFault_eq (x : Cond) : dataFault u x s = s.modCtx u (fun c =>
    { c with conds := c.conds.add x, halt := some (c.halt.getD .storeFault) }) := rfl

/-- A page check that passes, for a context that had no segment: its page gains a use (R31, R49). -/
theorem replaceSegment_of_none {a : Word} {n : Nat} (hg : (s.ctx u).seg = none) : replaceSegment u a n s =
    (s.modPage (pageOf a) (fun x => { x with uses := x.uses + 1 })).modCtx u (fun c =>
      { c with seg := some { addr := a, remaining := n, page := pageOf a } }) := by
  rw [replaceSegment, hg]
  rfl

theorem firstSegment_of_other (hd : (s.ctx u).desc = some d) (hk : ¬ (d.kind = .input ∨ d.kind = .output)) :
    firstSegment u s = s := by
  simp only [firstSegment, hd, hk, if_false]

theorem firstSegment_of_open (hd : (s.ctx u).desc = some d) (hk : d.kind = .input ∨ d.kind = .output)
    (ho : (s.ctx u).owner = some p) (hp : s.pageOpen p (pageOf d.addr) = true) :
    firstSegment u s = testLookahead u (replaceSegment u d.addr d.count.toNat s) := by
  simp only [firstSegment, hd, hk, if_true, becomeCurrent_of_open ho hp]

/-- A page check that fails sets a halt request, and nothing is looked ahead. -/
theorem firstSegment_of_closed (hd : (s.ctx u).desc = some d) (hk : d.kind = .input ∨ d.kind = .output)
    (ho : (s.ctx u).owner = some p) (hp : s.pageOpen p (pageOf d.addr) = false) :
    firstSegment u s = dataFault u .storeFault s := by
  have hclosed : ∀ x, (s.ctx u).owner = some x → s.pageOpen x (pageOf d.addr) = false := by
    intro x hx
    rw [ho] at hx
    rwa [← Option.some.inj hx]
  simp only [firstSegment, hd, hk, if_true, becomeCurrent_of_closed hclosed]
  refine testLookahead_of_undue (Bool.eq_false_iff.mpr fun h => ?_)
  rw [dataFault_ctx, if_pos rfl] at h
  cases hg : (s.ctx u).seg with
  | none => simp [Context.wantsLookahead, Context.requestHalt, Context.gain, hg] at h
  | some g =>
    obtain ⟨-, -, -, hh, -⟩ := (wantsLookahead_iff (c := ((s.ctx u).gain .storeFault).requestHalt .storeFault) hd hg).mp h
    simp [Context.requestHalt] at hh

/-! ### RSP (R75, R76) -/

variable {e : Exchange} {addr st : Byte}

theorem exec_rsp (h : s.awaitsReply e) (hn : names addr u) :
    exec (.rsp addr st) s = .next (awaitedFrame (.rsp u (statusOf st)) (s.modLnk Lnk.heard)) := by
  obtain ⟨-, -, -, -, ha⟩ := h
  exact congrArg Host.Outcome.next (receiveFrom_awaited s _ hn ha)

theorem awaitedFrame_selection {f : UnitFrame} (h : s.awaitsReply e) (hk : e.kind = .selection) (hu : e.unit = some u) :
    awaitedFrame f (s.modLnk Lnk.heard) = selectionReply e u f (s.modLnk Lnk.heard) := by
  obtain ⟨hl, he, -, -, -⟩ := h
  simp [awaitedFrame, hl, he, hk, hu]

theorem awaitedFrame_haltSelection {f : UnitFrame} (h : s.awaitsReply e) (hk : e.kind = .haltSelection)
    (hu : e.unit = some u) :
    awaitedFrame f (s.modLnk Lnk.heard) = haltSelectionReply e u f (s.modLnk Lnk.heard) := by
  obtain ⟨hl, he, -, -, -⟩ := h
  simp [awaitedFrame, hl, he, hk, hu]

theorem statusOf_eq (st : Byte) : statusOf st = BitVec.ofNat 5 st.toNat := by
  rw [← BitVec.toNat_inj]
  simp [statusOf]

theorem statusOf_eq_zero : statusOf st = 0 ↔ st.toNat % 32 = 0 := by
  rw [← BitVec.toNat_inj]
  simp [statusOf]

/-- What a LONG selection leaves of its context before the first segment is made current. -/
def connected (u : UnitAddr) (s : State) : State := s.modCtx u (fun x => { x with state := .connected })

theorem exec_rsp_long (h : s.awaitsReply e) (hk : e.kind = .selection) (hu : e.unit = some u) (hn : names addr u)
    (hst : st.toNat % 32 = 0) (hs : (s.ctx u).state = .selecting) (hm : s.mode u = .long) :
    exec (.rsp addr st) s = .next (toHold ((firstSegment u (connected u (s.modLnk Lnk.heard))).modLnk
      (fun l => { l with conn := some u }))) := by
  have hm' : (s.modLnk Lnk.heard).mode u = .long := hm
  rw [exec_rsp h hn, awaitedFrame_selection h hk hu]
  simp only [selectionReply, if_true, statusOf_eq_zero.mpr hst, hm', selectionAccepted, modLnk_ctx, hs]
  rfl

theorem exec_rsp_short (h : s.awaitsReply e) (hk : e.kind = .selection) (hu : e.unit = some u) (hn : names addr u)
    (hst : st.toNat % 32 = 0) (hs : (s.ctx u).state = .selecting) (hm : s.mode u = .short) :
    exec (.rsp addr st) s = .next (toOpened (enterDisconnected u (s.modLnk Lnk.heard))) := by
  have hm' : (s.modLnk Lnk.heard).mode u = .short := hm
  rw [exec_rsp h hn, awaitedFrame_selection h hk hu]
  simp only [selectionReply, if_true, statusOf_eq_zero.mpr hst, hm', selectionAccepted, modLnk_ctx, hs]

theorem modPage_modCtx (q : PageNo) (f : PageEntry → PageEntry) (h : Context → Context) :
    (s.modCtx u h).modPage q f = (s.modPage q f).modCtx u h := rfl

/-- The first segment of a LONG selection, its page open and nothing to look ahead. -/
theorem firstSegment_of_undue {t : State} (hg : (t.ctx u).seg = none) (hd : (t.ctx u).desc = some d)
    (hk : d.kind = .input ∨ d.kind = .output) (ho : (t.ctx u).owner = some p) (hp : t.pageOpen p (pageOf d.addr) = true)
    (hw : ¬ (d.kind = .input ∧ d.link = .nextSegment ∧ (t.ctx u).lookahead = .absent ∧ (t.ctx u).halt = none ∧
      d.count.toNat ≤ 16)) :
    firstSegment u t = (t.modPage (pageOf d.addr) (fun x => { x with uses := x.uses + 1 })).modCtx u (fun c =>
      { c with seg := some { addr := d.addr, remaining := d.count.toNat, page := pageOf d.addr } }) := by
  rw [firstSegment_of_open hd hk ho hp, testLookahead_of_undue, replaceSegment_of_none hg]
  refine Bool.eq_false_iff.mpr fun h => hw ?_
  rw [replaceSegment_ctx, if_pos rfl] at h
  exact (wantsLookahead_iff (c := { t.ctx u with seg := some _ }) hd rfl).mp h

/-- The first segment of a LONG selection, its page open and the SEG after it looked ahead at once (R34, R35). -/
theorem firstSegment_of_due {t : State} {a : Word} (hg : (t.ctx u).seg = none) (hd : (t.ctx u).desc = some d)
    (ha : (t.ctx u).descAddr = some a) (ho : (t.ctx u).owner = some p) (hp : t.pageOpen p (pageOf d.addr) = true)
    (hw : d.kind = .input ∧ d.link = .nextSegment ∧ (t.ctx u).lookahead = .absent ∧ (t.ctx u).halt = none ∧
      d.count.toNat ≤ 16) :
    firstSegment u t = (t.modPage (pageOf d.addr) (fun x => { x with uses := x.uses + 1 })).modCtx u (fun c =>
      { c with seg := some { addr := d.addr, remaining := d.count.toNat, page := pageOf d.addr },
               jumps := (fetch (.segment .input) p t (a.toNat + 8)).jumps,
               lookahead := lookaheadOf (fetch (.segment .input) p t (a.toNat + 8)) }) := by
  obtain ⟨hk, -, -, -, -⟩ := id hw
  have hc : ((replaceSegment u d.addr d.count.toNat t).ctx u) =
      { t.ctx u with seg := some { addr := d.addr, remaining := d.count.toNat, page := pageOf d.addr } } := by
    rw [replaceSegment_ctx, if_pos rfl]
  have hdue : ((replaceSegment u d.addr d.count.toNat t).ctx u).wantsLookahead = true := by
    rw [hc]
    exact (wantsLookahead_iff (c := { t.ctx u with seg := some _ }) hd rfl).mpr hw
  have hn : ((replaceSegment u d.addr d.count.toNat t).ctx u).nextDesc = a.toNat + 8 := by
    simp only [hc, Context.nextDesc, ha]
  have hf : fetch (.segment .input) p (replaceSegment u d.addr d.count.toNat t) (a.toNat + 8) =
      fetch (.segment .input) p t (a.toNat + 8) := by
    refine fetch_of_tags ?_ (fun q => ?_) _ _ _ <;> rw [replaceSegment_of_none hg]
    · rfl
    · by_cases hq : q = pageOf d.addr <;> simp [hq]
  rw [firstSegment_of_open hd (.inl hk) ho hp, testLookahead_of_due hdue (by rw [hc]; exact ho), hn, hf,
    replaceSegment_of_none hg, modCtx_modCtx]

/-- Settles O36: a LONG selection by its order's kind and its first segment's page, a SHORT one by its entry to DISCONNECTED. -/
theorem anEmptyRspAcceptsASelection : Obligations.AnEmptyRspAcceptsASelection := by
  refine ⟨fun s e u p d addr st h hk hu hn hst hs hm ho hd hg => ⟨fun hkd => ?_, fun hkd hp hw => ?_,
    fun a hp hw ha => ?_, fun hkd hp => ?_⟩, fun s e u addr st h hk hu hn hst hs hm hq => ?_⟩
  case refine_5 =>
    rw [exec_rsp_short h hk hu hn hst hs hm, enterDisconnected_eq (by simpa using hq)]
    rfl
  all_goals
    have hd' : ((connected u (s.modLnk Lnk.heard)).ctx u).desc = some d := by simpa [connected] using hd
    have ho' : ((connected u (s.modLnk Lnk.heard)).ctx u).owner = some p := by simpa [connected] using ho
    have hg' : ((connected u (s.modLnk Lnk.heard)).ctx u).seg = none := by simpa [connected] using hg
    rw [exec_rsp_long h hk hu hn hst hs hm]
  · rw [firstSegment_of_other hd' (by rw [hkd]; nofun)]
    rfl
  · rw [firstSegment_of_undue hg' hd' hkd ho' (by simpa [connected] using hp) (by simpa [connected] using hw),
      connected, modPage_modCtx, modCtx_modCtx]
    rfl
  · rw [firstSegment_of_due hg' hd' (by simpa [connected] using ha) ho' (by simpa [connected] using hp)
      (by simpa [connected] using hw), connected, modPage_modCtx, modCtx_modCtx,
      fetch_congr (t := s) (by simp)]
    rfl
  · rw [firstSegment_of_closed hd' hkd ho' (by simpa [connected] using hp), dataFault_eq, connected, modCtx_modCtx]
    rfl

/-! ### Refusals and halt selections (R76, R94, R106) -/

theorem exec_rsp_refuses (h : s.awaitsReply e) (hk : e.kind = .selection) (hu : e.unit = some u) (hn : names addr u)
    (hst : st.toNat % 32 ≠ 0) (hs : (s.ctx u).state = .selecting) : exec (.rsp addr st) s =
      .next (toOpened (endOrder u 0 ((s.modLnk Lnk.heard).modCtx u (fun c =>
        ({ c with unitStatus := some (statusOf st) }).gain .refused)))) := by
  rw [exec_rsp h hn, awaitedFrame_selection h hk hu]
  simp only [selectionReply, if_true, mt statusOf_eq_zero.mp hst, if_false, selectionRefused, modLnk_ctx, hs]

theorem exec_rsp_halts (h : s.awaitsReply e) (hk : e.kind = .haltSelection) (hu : e.unit = some u) (hn : names addr u)
    (hs : (s.ctx u).state = .selecting) : exec (.rsp addr st) s =
      .next (toOpened (takeEnding u (statusOf st) false (s.modLnk Lnk.heard))) := by
  rw [exec_rsp h hn, awaitedFrame_haltSelection h hk hu]
  simp only [haltSelectionReply, if_true, haltSelectionAnswered, modLnk_ctx, hs]

theorem endingResidual_eq {c : Context} (hd : c.desc = some d) : c.endingResidual = leftOver c d := by
  unfold Context.endingResidual leftOver
  rw [hd]
  cases c.seg <;> rfl

/-- The length check of R43 changes the conditions alone. -/
theorem lengthCheck_of_desc {c : Context} (hd : c.desc = some d) :
    c.lengthCheck = { c with conds := lengthChecked c d } := by
  have hcheck : c.lengthCheck = if leftOver c d ≠ 0 ∧ d.lengthOk = false then c.gain .length else c := by
    simp only [Context.lengthCheck, hd, endingResidual_eq hd]
  rw [hcheck, lengthChecked]
  by_cases h0 : leftOver c d = 0
  · simp [h0]
  · cases d.lengthOk <;> simp [h0, Context.gain, Conds.add]

/-- The ending status of an order that does not chain on ends it (R45, R100). -/
theorem takeEnding_ended {x : UStatus} {chains : Bool} {a : Word} (hd : (s.ctx u).desc = some d)
    (ha : (s.ctx u).descAddr = some a) (ho : (s.ctx u).owner = some p)
    (hc : (chains && (({ s.ctx u with unitStatus := some x } : Context).lengthCheck).mayChain) = false) :
    ended u p
      { unit := u, owner := p, lastDesc := a, resume := a + 8, residual := leftOver (s.ctx u) d,
        conds := closedWith (s.ctx u) (lengthChecked (s.ctx u) d), status := some x } s (takeEnding u x chains s) := by
  have hl : ({ s.ctx u with unitStatus := some x } : Context).lengthCheck =
      { s.ctx u with unitStatus := some x, conds := lengthChecked (s.ctx u) d } :=
    lengthCheck_of_desc (c := { s.ctx u with unitStatus := some x }) hd
  have hrun : takeEnding u x chains s = endOrder u (leftOver (s.ctx u) d)
      (s.modCtx u (fun c => { c with unitStatus := some x, conds := lengthChecked (s.ctx u) d })) := by
    have hm : s.modCtx u (fun c => ({ c with unitStatus := some x } : Context).lengthCheck) =
        s.modCtx u (fun c => { c with unitStatus := some x, conds := lengthChecked (s.ctx u) d }) :=
      modCtx_congr s u hl
    rw [takeEnding, hm]
    simp only [ctx_modCtx, if_true]
    rw [← hl, hc, hl, if_neg (by simp)]
    rw [endingResidual_eq (d := d) (by exact hd)]
    rfl
  rw [hrun]
  have hr := endOrder_ended (s.modCtx u (fun c => { c with unitStatus := some x, conds := lengthChecked (s.ctx u) d })) u p
    (leftOver (s.ctx u) d) (by simpa using ho)
  have hrec : ({ s.ctx u with unitStatus := some x, conds := lengthChecked (s.ctx u) d } : Context).compose u p
      (leftOver (s.ctx u) d) =
      { unit := u, owner := p, lastDesc := a, resume := a + 8, residual := leftOver (s.ctx u) d,
        conds := closedWith (s.ctx u) (lengthChecked (s.ctx u) d), status := some x } := by
    simp [Context.compose, ha, finalConds_eq, closedWith]
  simp only [ctx_modCtx, if_true, hrec] at hr
  refine ended_of hr rfl (fun v hv => by simp [hv]) (by simp) rfl rfl rfl (fun q => rfl) rfl rfl rfl

/-- A refused order ends with no residual and the status of its refusal (R4, R94). -/
theorem refusal_ended {x : UStatus} {a : Word} (ha : (s.ctx u).descAddr = some a) (ho : (s.ctx u).owner = some p) :
    ended u p
      { unit := u, owner := p, lastDesc := a, resume := a + 8, residual := 0,
        conds := closedWith (s.ctx u) { (s.ctx u).conds with refused := true }, status := some x } s
      (endOrder u 0 (s.modCtx u (fun c => ({ c with unitStatus := some x }).gain .refused))) := by
  have hr := endOrder_ended (s.modCtx u (fun c => ({ c with unitStatus := some x }).gain .refused)) u p 0
    (by simpa [Context.gain] using ho)
  have hrec : (({ s.ctx u with unitStatus := some x } : Context).gain .refused).compose u p 0 =
      { unit := u, owner := p, lastDesc := a, resume := a + 8, residual := 0,
        conds := closedWith (s.ctx u) { (s.ctx u).conds with refused := true }, status := some x } := by
    simp [Context.compose, Context.gain, Conds.add, ha, finalConds_eq, closedWith]
  simp only [ctx_modCtx, if_true, hrec] at hr
  refine ended_of hr rfl (fun v hv => by simp [hv]) (by simp [Context.gain]) rfl rfl rfl (fun q => rfl) rfl rfl rfl

/-- Settles O37: a refusal ends its order with residual 0, a halt selection with its ending status and no chain. -/
theorem aRefusalOrAHaltSelectionEndsTheOrder : Obligations.ARefusalOrAHaltSelectionEndsTheOrder := by
  refine ⟨fun s e u p a addr st h hk hu hn hst hs ha ho => ?_, fun s e u p d a addr st h hk hu hn hs ha hd ho => ?_⟩
  · refine ⟨_, exec_rsp_refuses h hk hu hn hst hs, by simp [toOpened, Lnk.heard], ?_⟩
    rw [← statusOf_eq]
    exact ended_of_eq s (refusal_ended (s := s.modLnk Lnk.heard) (by simpa using ha) (by simpa using ho)) rfl
  · refine ⟨_, exec_rsp_halts h hk hu hn hs, by simp [toOpened, Lnk.heard], ?_⟩
    rw [← statusOf_eq]
    exact ended_of_eq s (takeEnding_ended (s := s.modLnk Lnk.heard) (chains := false) (by simpa using hd) (by simpa using ha)
      (by simpa using ho) rfl) rfl

end

end Sys2Proof.SegmentSteps
end

section
/-! PROOFS. The REQs of an order: how LNK hears them, how its answer is sent, and where the bytes of a REQ IN_DATA go. -/

namespace Sys2Proof.OrderRequests

open Sys2Proof.Machine Sys2Proof.Laws Sys2Proof.StepActs Sys2Proof.UnitContexts Sys2Proof.SegmentSteps

section
variable {s t : State} {u : UnitAddr} {p : Port} {d : Descriptor} {g : Segment} {addr : Byte} {data : List Byte}

/-! ### The context a REQ is served on (R97 steps 1 and 2) -/

theorem served_modLnk (f : Lnk → Lnk) (u : UnitAddr) : (s.modLnk f).served u = (s.served u).modLnk f := by
  rw [served_eq, served_eq, modLnk_ctx]
  by_cases h : (s.ctx u).state = .disconnected
  · rw [if_pos h, if_pos h]
    rfl
  · rw [if_neg h, if_neg h]

/-- The context served, once the connection is made. -/
theorem served_ctx (s : State) (u : UnitAddr) : (s.served u).ctx u =
    { s.ctx u with
      state := if (s.ctx u).state = .disconnected then .connected else (s.ctx u).state
      silence := if (s.ctx u).state = .disconnected then .stopped else (s.ctx u).silence
      stopQueued := if (s.ctx u).state = .disconnected then false else (s.ctx u).stopQueued } := by
  rw [served_eq]
  by_cases h : (s.ctx u).state = .disconnected <;> simp [h, connect]

@[simp] theorem served_desc (s : State) (u : UnitAddr) : ((s.served u).ctx u).desc = (s.ctx u).desc := by rw [served_ctx]

theorem served_ctx_of_ne {v : UnitAddr} (h : v ≠ u) : (s.served u).ctx v = s.ctx v := by
  rw [served_eq]
  by_cases hs : (s.ctx u).state = .disconnected <;> simp [hs, connect, h]

/-- A state that differs at most in CTB and in STR. -/
def sameOutside (s t : State) : Prop := t = { s with ctb := t.ctb, str := t.str }

theorem sameOutside.parts (h : sameOutside s t) :
    t.ports = s.ports ∧ t.lnk = s.lnk ∧ t.rcm = s.rcm ∧ t.dsc = s.dsc ∧ t.pending = s.pending := by
  unfold sameOutside at h
  rw [h]
  exact ⟨rfl, rfl, rfl, rfl, rfl⟩

theorem served_sameOutside : sameOutside s (s.served u) := by
  unfold sameOutside
  rw [served_eq]
  by_cases h : (s.ctx u).state = .disconnected
  · rw [if_pos h]
    rfl
  · rw [if_neg h]

theorem served_str (s : State) (u : UnitAddr) : (s.served u).str = s.str := by
  rw [served_eq]
  by_cases h : (s.ctx u).state = .disconnected
  · rw [if_pos h]
    rfl
  · rw [if_neg h]

theorem served_connected (h : s.hears u) : ((s.served u).ctx u).state = .connected := by
  rw [served_ctx]
  rcases h with (⟨-, -, -, h⟩ | ⟨-, h, -⟩) | ⟨-, -, h⟩ <;> simp [h]

/-- The first segment ensured, by the branches of its definition (R31). -/
theorem ensureSegment_cases (u : UnitAddr) (s : State) : ensureSegment u s = s ∨
    ensureSegment u s = testLookahead u (replaceSegment u ((s.ctx u).desc.elim 0 (·.addr))
      ((s.ctx u).desc.elim 0 (·.count.toNat)) s) ∨ ensureSegment u s = testLookahead u (dataFault u .storeFault s) := by
  unfold ensureSegment firstSegment
  split
  · split
    · exact .inl rfl
    · next d hd =>
      split
      · rcases becomeCurrent_cases u d.addr d.count.toNat s with ⟨p, -, -, h⟩ | h <;> simp [h, hd]
      · exact .inl rfl
  · exact .inl rfl

theorem testLookahead_sameOutside : sameOutside s (testLookahead u s) := by
  unfold sameOutside
  rcases testLookahead_cases u s with h | ⟨l, n, -, h⟩ <;> rw [h]
  rfl

theorem sameOutside.trans {x : State} (h1 : sameOutside s t) (h2 : sameOutside t x) : sameOutside s x := by
  unfold sameOutside at *
  rw [h2, h1]

theorem replaceSegment_sameOutside {a : Word} {n : Nat} : sameOutside s (replaceSegment u a n s) := by
  unfold sameOutside replaceSegment State.lowerSeg
  cases (s.ctx u).seg <;> rfl

theorem ensureSegment_sameOutside : sameOutside s (ensureSegment u s) := by
  rcases ensureSegment_cases u s with h | h | h <;> rw [h]
  · rfl
  · exact replaceSegment_sameOutside.trans testLookahead_sameOutside
  · exact sameOutside.trans (t := dataFault u .storeFault s) rfl testLookahead_sameOutside

/-! ### What CTB works on does not depend on LNK -/

theorem testLookahead_modLnk (f : Lnk → Lnk) : testLookahead u (s.modLnk f) = (testLookahead u s).modLnk f := by
  have hf : ∀ p, fetch (.segment .input) p (s.modLnk f) (s.ctx u).nextDesc =
      fetch (.segment .input) p s (s.ctx u).nextDesc := fun p => fetch_congr rfl _ _ _
  unfold testLookahead
  simp only [modLnk_ctx, hf]
  (repeat' split) <;> rfl

theorem becomeCurrent_modLnk (a : Word) (n : Nat) (f : Lnk → Lnk) : becomeCurrent u a n (s.modLnk f) =
    ((becomeCurrent u a n s).1.modLnk f, (becomeCurrent u a n s).2) := by
  unfold becomeCurrent
  simp only [modLnk_ctx, pageOpen_modLnk]
  cases (s.ctx u).owner with
  | none => rfl
  | some p =>
    by_cases hp : s.pageOpen p (pageOf a) = true
    · simp only [hp, if_true]
      cases (s.ctx u).seg <;> rfl
    · simp only [hp]
      rfl

theorem ensureSegment_modLnk (f : Lnk → Lnk) : ensureSegment u (s.modLnk f) = (ensureSegment u s).modLnk f := by
  unfold ensureSegment firstSegment
  simp only [modLnk_ctx, becomeCurrent_modLnk, testLookahead_modLnk]
  (repeat' split) <;> rfl

theorem begun_eq_of_desc (hd : (s.ctx u).desc = some d) : s.begun u = ensureSegment u (s.served u) :=
  begun_eq s u (by rw [served_desc, hd]; nofun)

/-- CTB forms its answer from the context begun, whatever LNK has heard. -/
theorem ensureSegment_heard (hd : (s.ctx u).desc = some d) :
    ensureSegment u ((s.modLnk Lnk.heard).served u) = (s.begun u).modLnk Lnk.heard := by
  rw [served_modLnk, ensureSegment_modLnk, begun_eq_of_desc hd]

theorem begun_sameOutside (hd : (s.ctx u).desc = some d) : sameOutside s (s.begun u) := by
  rw [begun_eq_of_desc hd]
  exact served_sameOutside.trans ensureSegment_sameOutside

theorem begun_store (hd : (s.ctx u).desc = some d) : (s.begun u).str.store = s.str.store := by
  rw [begun_eq_of_desc hd]
  have hs : (ensureSegment u (s.served u)).str.store = (s.served u).str.store := by
    unfold ensureSegment
    split <;> simp
  rw [hs, served_str]

theorem begun_byteAt (hd : (s.ctx u).desc = some d) (a : StoreAddr) : (s.begun u).byteAt a = s.byteAt a := by
  simp only [State.byteAt, begun_store hd]

theorem begun_connected (h : s.hears u) (hd : (s.ctx u).desc = some d) : ((s.begun u).ctx u).state = .connected := by
  rw [begun_eq_of_desc hd, ensureSegment_state, served_connected h]

theorem testLookahead_desc : ((testLookahead u s).ctx u).desc = (s.ctx u).desc := by
  rcases testLookahead_cases u s with h | ⟨l, n, -, h⟩ <;> simp [h]

theorem begun_desc (s : State) (u : UnitAddr) : ((s.begun u).ctx u).desc = (s.ctx u).desc := by
  cases hd : (s.ctx u).desc with
  | none =>
    unfold State.begun
    simp [hd]
  | some d =>
    rw [begun_eq_of_desc hd, ← hd]
    rcases ensureSegment_cases u (s.served u) with h | h | h <;> rw [h]
    · simp
    · rw [testLookahead_desc]
      simp
    · rw [testLookahead_desc]
      simp [dataFault_eq]

/-! ### The exchange a REQ reaches its order through (R71, R77, R79) -/

/-- A REQ heard over no LONG connection has come after a POLL. -/
theorem heardAs_opener {n : Nat} {b : Bool} {o : Option GrantKind} (h : s.hears u) (ha : heardAs s n b o)
    (hc : s.lnk.conn = none) : o = some .poll := by
  rcases h with (⟨-, hc', -, -⟩ | ⟨hc', -, -⟩) | ⟨⟨e, he, ⟨hl, -⟩, hk⟩, -, -⟩
  · rw [hc] at hc'
    cases hc'
  · rw [hc] at hc'
    cases hc'
  · rcases ha with ⟨hl', -⟩ | ⟨e', ⟨-, he', -⟩, hk', -⟩ | ⟨-, -, -, ho⟩
    · rw [hl] at hl'
      cases hl'
    · rw [Option.mem_def, he'] at he
      cases he
      rw [hk] at hk'
      cases hk'
    · exact ho

/-- What LNK sends in answer to a REQ, and keeps in the answer memory (R80, R82, R83). -/
def answerSent (u : UnitAddr) (body : ReqBody) (n : Nat) (b : Bool) (o : Option GrantKind) (f : CtlFrame) (m : State) : State :=
  (sendIn (reqExchange u body n b o f) m).setAnswer u (answerTo body f)

theorem answerSent_answer (u v : UnitAddr) (body : ReqBody) (n : Nat) (b : Bool) (o : Option GrantKind) (f : CtlFrame) (m : State) :
    (answerSent u body n b o f m).answer v = if v = u then answerTo body f else m.answer v := by
  rw [answerSent, answer_setAnswer]
  rfl

theorem answerSent_answering {m : State} {n : Nat} {b : Bool} {o : Option GrantKind} {f : CtlFrame} {body : ReqBody}
    {k : ExKind} {a : AnsweredKind} (hm : m.lnk = s.lnk.heard) (hk : exKindOf body = k)
    (ha : answerTo body f = some { kind := a, frame := f }) : answering k a u f s (answerSent u body n b o f m) := by
  have hans : ∀ v, m.answer v = s.answer v := fun v => by rw [State.answer, hm]; rfl
  refine ⟨rfl, rfl, rfl, ?_, ⟨_, rfl, hk, rfl, rfl, rfl, rfl⟩, ?_, fun v hv => ?_, ?_, ?_, ?_, ?_⟩
  case refine_2 => rw [answerSent_answer, if_pos rfl, ha]
  case refine_3 => rw [answerSent_answer, if_neg hv, hans]
  all_goals simp [answerSent, sendIn, hm]

theorem answerSent_viaPoll {m : State} {n : Nat} {b : Bool} {o : Option GrantKind} {f : CtlFrame} {body : ReqBody}
    (h : s.hears u) (ha : heardAs s n b o) : viaPoll s (answerSent u body n b o f m) :=
  fun hc => ⟨_, rfl, heardAs_opener h ha hc⟩

/-! ### REQ IN_DATA (R36 to R39, R80) -/

/-- The frame an IN_DATA is answered with: ACK, or STP in the report form (R80). -/
def dataFrame (u : UnitAddr) (ok : Bool) : CtlFrame := if ok then .ack u else .stp .report u

theorem serveOrder_inData {n : Nat} {b : Bool} {o : Option GrantKind} (hs : (s.ctx u).state = .connected)
    (hd : (s.ctx u).desc = some d) (hk : d.kind = .input) : serveOrder u (.inData data) n b o s =
      answerSent u (.inData data) n b o (dataFrame u (placeFrame (data.length + 1) u data (ensureSegment u s)).2)
        (placeFrame (data.length + 1) u data (ensureSegment u s)).1 := by
  have hr : serveReq u (.inData data) s = takeInData u data (ensureSegment u s) := by
    simp [serveReq, hs, hd, hk]
  rw [serveOrder, hr, takeInData]
  cases (placeFrame (data.length + 1) u data (ensureSegment u s)).2 <;> rfl

theorem reqFrame_eq {body : ReqBody} {mark : Bool} (hn : names addr u) (hb : bodyWellFormed body = true) :
    reqFrame addr mark body = .req u mark body := by
  rw [reqFrame, unitOf_names hn, hb]

theorem bodyWellFormed_inData (h1 : 1 ≤ data.length) (h2 : data.length ≤ 16) : bodyWellFormed (.inData data) = true := by
  simp [bodyWellFormed, inDataWellFormed, h1, h2, Config.frameBytes]

theorem repeatAnswer_unmarked (s : State) (u : UnitAddr) (body : ReqBody) : s.repeatAnswer u false body = none := by
  unfold State.repeatAnswer
  cases s.answer u <;> rfl

/-- A REQ IN_DATA of an IN order is served on the context begun. -/
theorem exec_reqInData (h : s.hears u) (hn : names addr u) (h1 : 1 ≤ data.length) (h2 : data.length ≤ 16)
    (hd : (s.ctx u).desc = some d) (hk : d.kind = .input) : ∃ n b o, heardAs s n b o ∧
      exec (.reqInData addr false data) s = .next (answerSent u (.inData data) n b o
        (dataFrame u (placeFrame (data.length + 1) u data ((s.begun u).modLnk Lnk.heard)).2)
        (placeFrame (data.length + 1) u data ((s.begun u).modLnk Lnk.heard)).1) := by
  have hl : linkFrame (.reqInData addr false data) = some (.req u false (.inData data)) :=
    congrArg some (reqFrame_eq hn (bodyWellFormed_inData h1 h2))
  obtain ⟨n, b, o, ha, he⟩ := hears_exec s hl h (repeatAnswer_unmarked s u _)
  refine ⟨n, b, o, ha, he.trans ?_⟩
  rw [serveOrder_inData (d := d) (by rw [served_modLnk]; exact served_connected h) (by rw [served_desc]; exact hd) hk,
    ensureSegment_heard hd]

/-! ### Bytes placed (R36, R39) -/

/-- Bytes put in the store from an address on, unless DISCARD is set (R36 step 1). -/
def putBytes (discard : Bool) (a : Word) (bs : List Byte) (s : State) : State :=
  if discard then s else s.writeBytes a bs

theorem putBytes_eq (discard : Bool) (a : Word) (bs : List Byte) (s : State) : putBytes discard a bs s =
    s.withStore (putBytes discard a bs s).str.store := by
  cases discard
  · exact writeBytes_eq bs s a
  · rfl

@[simp] theorem putBytes_ctx (discard : Bool) (a : Word) (bs : List Byte) (s : State) (v : UnitAddr) :
    (putBytes discard a bs s).ctx v = s.ctx v := by rw [putBytes_eq]; rfl

@[simp] theorem putBytes_ctb (discard : Bool) (a : Word) (bs : List Byte) (s : State) :
    (putBytes discard a bs s).ctb = s.ctb := by rw [putBytes_eq]; rfl

@[simp] theorem putBytes_pages (discard : Bool) (a : Word) (bs : List Byte) (s : State) :
    (putBytes discard a bs s).str.pages = s.str.pages := by rw [putBytes_eq]; rfl

@[simp] theorem putBytes_lnk (discard : Bool) (a : Word) (bs : List Byte) (s : State) :
    (putBytes discard a bs s).lnk = s.lnk := by rw [putBytes_eq]; rfl

theorem putBytes_sameOutside (discard : Bool) (a : Word) (bs : List Byte) (s : State) :
    sameOutside s (putBytes discard a bs s) := by
  rw [putBytes_eq]
  exact rfl

/-- What is put in the store does not depend on LNK. -/
theorem writeBytes_modLnk (f : Lnk → Lnk) (bs : List Byte) : ∀ (a : Word) (s : State),
    (s.modLnk f).writeBytes a bs = (s.writeBytes a bs).modLnk f := by
  induction bs with
  | nil => intro a s; rfl
  | cons b bs ih => intro a s; exact ih (a + 1) (s.writeByte (lines a) b)

theorem putBytes_modLnk (f : Lnk → Lnk) (discard : Bool) (a : Word) (bs : List Byte) (s : State) :
    putBytes discard a bs (s.modLnk f) = (putBytes discard a bs s).modLnk f := by
  cases discard
  · exact writeBytes_modLnk f bs a s
  · rfl

theorem putBytes_byteAt {discard : Bool} {a : Word} {bs : List Byte} (h : s.storeOk) (hl : a.toNat + bs.length ≤ 32768)
    (x : StoreAddr) : (putBytes discard a bs s).byteAt x = placedAt discard a bs x (s.byteAt x) := by
  cases discard
  · rw [putBytes, if_neg (by simp), byteAt_writeBytes bs a x h hl]
    simp [placedAt]
  · simp [putBytes, placedAt]

theorem placeSome_eq (hd : (s.ctx u).desc = some d) (bs : List Byte) : placeSome u g bs s =
    (putBytes d.discard g.addr bs s).modCtx u (fun c => { c with
      seg := some { g with addr := g.addr + BitVec.ofNat 16 bs.length, remaining := g.remaining - bs.length } }) := by
  simp only [placeSome, hd]
  rfl

/-- A segment moved on by `n` bytes (R36, R40). -/
def advanced (g : Segment) (n : Nat) : Segment :=
  { g with addr := g.addr + BitVec.ofNat 16 n, remaining := g.remaining - n }

/-- What is left of a segment that fits its page lies in the store. -/
theorem end_of_fits (h : g.fits) {n : Nat} (hn : n ≤ g.remaining) : g.addr.toNat + n ≤ 32768 := by
  obtain ⟨-, h2⟩ := h
  have := g.page.isLt
  omega

/-- Bytes have been put, the segment has moved on, and no lookahead is due. -/
theorem testLookahead_placeSome {bs : List Byte} (hd : (s.ctx u).desc = some d)
    (hw : ¬ (d.kind = .input ∧ d.link = .nextSegment ∧ (s.ctx u).lookahead = .absent ∧ (s.ctx u).halt = none ∧
      g.remaining - bs.length ≤ 16)) : testLookahead u (placeSome u g bs s) =
    (putBytes d.discard g.addr bs s).modCtx u (fun c => { c with seg := some (advanced g bs.length) }) := by
  rw [testLookahead_of_undue, placeSome_eq hd]
  · rfl
  · refine Bool.eq_false_iff.mpr fun h => hw ?_
    rw [placeSome_ctx, if_pos rfl] at h
    exact (wantsLookahead_iff (c := { s.ctx u with seg := some _ }) hd rfl).mp h

/-- Bytes have been put, the segment has moved on, and the next SEG is looked ahead (R34, R35). -/
theorem testLookahead_placeSome_due {bs : List Byte} {a : Word} (hd : (s.ctx u).desc = some d)
    (ha : (s.ctx u).descAddr = some a) (ho : (s.ctx u).owner = some p)
    (hw : d.kind = .input ∧ d.link = .nextSegment ∧ (s.ctx u).lookahead = .absent ∧ (s.ctx u).halt = none ∧
      g.remaining - bs.length ≤ 16) : testLookahead u (placeSome u g bs s) =
    (putBytes d.discard g.addr bs s).modCtx u (fun c => { c with
      seg := some (advanced g bs.length),
      jumps := (fetch (.segment .input) p (putBytes d.discard g.addr bs s) (a.toNat + 8)).jumps,
      lookahead := lookaheadOf (fetch (.segment .input) p (putBytes d.discard g.addr bs s) (a.toNat + 8)) }) := by
  have hc : (placeSome u g bs s).ctx u = { s.ctx u with seg := some (advanced g bs.length) } := by
    rw [placeSome_ctx, if_pos rfl]
    rfl
  have hdue : ((placeSome u g bs s).ctx u).wantsLookahead = true := by
    rw [hc]
    exact (wantsLookahead_iff (c := { s.ctx u with seg := some _ }) hd rfl).mpr hw
  have hn : ((placeSome u g bs s).ctx u).nextDesc = a.toNat + 8 := by
    simp only [hc, Context.nextDesc, ha]
  have hf : fetch (.segment .input) p (placeSome u g bs s) (a.toNat + 8) =
      fetch (.segment .input) p (putBytes d.discard g.addr bs s) (a.toNat + 8) := by
    rw [placeSome_eq hd]
    exact fetch_congr rfl _ _ _
  rw [testLookahead_of_due hdue (by rw [hc]; exact ho), hn, hf, placeSome_eq hd, modCtx_modCtx]
  rfl

/-! ### A frame and its segment (R36 to R39) -/

theorem placeFrame_of_none (n : Nat) (hg : (s.ctx u).seg = none) : placeFrame n u data s = (s, false) := by
  cases n with
  | zero => rfl
  | succ n => simp only [placeFrame, hg]

theorem placeFrame_of_fit (n : Nat) (hg : (s.ctx u).seg = some g) (hl : data.length ≤ g.remaining) :
    placeFrame (n + 1) u data s = (testLookahead u (placeSome u g data s),
      decide (((testLookahead u (placeSome u g data s)).ctx u).halt = none)) := by
  simp only [placeFrame, hg, List.take_of_length_le hl, List.drop_of_length_le hl, if_true]

theorem bytes_left {n : Nat} (h : n < data.length) : data.drop n ≠ [] := by
  rw [ne_eq, List.drop_eq_nil_iff]
  omega

theorem placeFrame_of_halted (n : Nat) (hg : (s.ctx u).seg = some g) (hl : g.remaining < data.length)
    (ht : testLookahead u (placeSome u g (data.take g.remaining) s) = t) (hh : (t.ctx u).halt ≠ none) :
    placeFrame (n + 1) u data s = (t, false) := by
  simp only [placeFrame, hg, if_neg (bytes_left hl), ht, if_pos hh]

theorem placeFrame_of_absent (n : Nat) (hg : (s.ctx u).seg = some g) (hl : g.remaining < data.length)
    (ht : testLookahead u (placeSome u g (data.take g.remaining) s) = t) (hh : (t.ctx u).halt = none)
    (ha : (t.ctx u).lookahead = .absent) : placeFrame (n + 1) u data s = (overrun u t, false) := by
  simp only [placeFrame, hg, if_neg (bytes_left hl), ht, if_neg (not_not_intro hh), ha]

theorem placeFrame_of_faulted (n : Nat) (hg : (s.ctx u).seg = some g) (hl : g.remaining < data.length)
    (ht : testLookahead u (placeSome u g (data.take g.remaining) s) = t) (hh : (t.ctx u).halt = none)
    (ha : (t.ctx u).lookahead = .faulted) : placeFrame (n + 1) u data s = (dataFault u .programFault t, false) := by
  simp only [placeFrame, hg, if_neg (bytes_left hl), ht, if_neg (not_not_intro hh), ha]

/-- A frame that overruns its segment with a SEG looked ahead goes on in it, when its page check passes (R36, R38). -/
theorem placeFrame_of_present (n : Nat) (hg : (s.ctx u).seg = some g) (hl : g.remaining < data.length)
    (ht : testLookahead u (placeSome u g (data.take g.remaining) s) = t) (hh : (t.ctx u).halt = none)
    {x : Descriptor} {a : Word} (ha : (t.ctx u).lookahead = .present x a) : placeFrame (n + 1) u data s =
      if (switchTo u x a t).2 then placeFrame n u (data.drop g.remaining) (testLookahead u (switchTo u x a t).1)
      else ((switchTo u x a t).1, false) := by
  simp only [placeFrame, hg, if_neg (bytes_left hl), ht, if_neg (not_not_intro hh), ha]

theorem overrun_eq (hd : (s.ctx u).desc = some d) : overrun u s = s.modCtx u (fun c =>
    { c with conds := { c.conds with length := c.conds.length || !d.lengthOk } }) := by
  simp only [overrun, hd]
  cases d.lengthOk
  · rw [if_neg (by simp)]
    exact modCtx_congr s u (by simp [Context.gain, Conds.add])
  · rw [if_pos rfl]
    exact (modCtx_id s u).symm.trans (modCtx_congr s u (by simp))

/-- A frame that fits its segment, no lookahead due (R36). -/
theorem placeFrame_fit_undue (n : Nat) (hd : (s.ctx u).desc = some d) (hg : (s.ctx u).seg = some g)
    (hl : data.length ≤ g.remaining)
    (hw : ¬ (d.kind = .input ∧ d.link = .nextSegment ∧ (s.ctx u).lookahead = .absent ∧ (s.ctx u).halt = none ∧
      g.remaining - data.length ≤ 16)) : placeFrame (n + 1) u data s =
    ((putBytes d.discard g.addr data s).modCtx u (fun c => { c with seg := some (advanced g data.length) }),
      decide ((s.ctx u).halt = none)) := by
  rw [placeFrame_of_fit n hg hl, testLookahead_placeSome hd hw]
  simp

/-- A frame that fits its segment and makes the SEG after it due (R34, R35). -/
theorem placeFrame_fit_due (n : Nat) {a : Word} (hd : (s.ctx u).desc = some d) (hg : (s.ctx u).seg = some g)
    (hl : data.length ≤ g.remaining) (ha : (s.ctx u).descAddr = some a) (ho : (s.ctx u).owner = some p)
    (hw : d.kind = .input ∧ d.link = .nextSegment ∧ (s.ctx u).lookahead = .absent ∧ (s.ctx u).halt = none ∧
      g.remaining - data.length ≤ 16) : placeFrame (n + 1) u data s =
    ((putBytes d.discard g.addr data s).modCtx u (fun c => { c with
      seg := some (advanced g data.length),
      jumps := (fetch (.segment .input) p (putBytes d.discard g.addr data s) (a.toNat + 8)).jumps,
      lookahead := lookaheadOf (fetch (.segment .input) p (putBytes d.discard g.addr data s) (a.toNat + 8)) }), true) := by
  obtain ⟨-, -, -, hh, -⟩ := id hw
  rw [placeFrame_of_fit n hg hl, testLookahead_placeSome_due hd ha ho hw]
  simp [hh]

/-- A frame that overruns its segment with a halt request set (R39). -/
theorem placeFrame_overrun_halted (n : Nat) (hd : (s.ctx u).desc = some d) (hg : (s.ctx u).seg = some g)
    (hl : g.remaining < data.length) (hh : (s.ctx u).halt ≠ none) : placeFrame (n + 1) u data s =
    ((putBytes d.discard g.addr (data.take g.remaining) s).modCtx u (fun c =>
      { c with seg := some (advanced g (data.take g.remaining).length) }), false) :=
  placeFrame_of_halted n hg hl (testLookahead_placeSome hd fun ⟨_, _, _, hnone, _⟩ => hh hnone) (by simpa using hh)

/-- A frame that overruns its segment with no SEG to follow (R37). -/
theorem placeFrame_overrun_ends (n : Nat) (hd : (s.ctx u).desc = some d) (hg : (s.ctx u).seg = some g)
    (hl : g.remaining < data.length) (hh : (s.ctx u).halt = none) (hlink : d.link ≠ .nextSegment)
    (hla : (s.ctx u).lookahead = .absent) : placeFrame (n + 1) u data s =
    ((putBytes d.discard g.addr (data.take g.remaining) s).modCtx u (fun c =>
      { c with seg := some (advanced g (data.take g.remaining).length),
               conds := { c.conds with length := c.conds.length || !d.lengthOk } }), false) := by
  rw [placeFrame_of_absent n hg hl (testLookahead_placeSome hd fun ⟨_, hnext, _⟩ => hlink hnext) (by simpa using hh)
    (by simpa using hla), overrun_eq (d := d) (by simpa using hd), modCtx_modCtx]

/-- A frame that overruns its segment and meets a faulted lookahead (R38). -/
theorem placeFrame_overrun_faulted (n : Nat) (hd : (s.ctx u).desc = some d) (hg : (s.ctx u).seg = some g)
    (hl : g.remaining < data.length) (hh : (s.ctx u).halt = none) (hla : (s.ctx u).lookahead = .faulted) :
    placeFrame (n + 1) u data s =
    ((putBytes d.discard g.addr (data.take g.remaining) s).modCtx u (fun c =>
      { c with seg := some (advanced g (data.take g.remaining).length), conds := c.conds.add .programFault,
               halt := some (c.halt.getD .storeFault) }), false) := by
  rw [placeFrame_of_faulted n hg hl (testLookahead_placeSome hd fun hw => by simp [hla] at hw) (by simpa using hh)
    (by simpa using hla), dataFault_eq, modCtx_modCtx]

/-- What a REQ IN_DATA has done whose bytes were placed from one address on: it is answered, its context is as given, and
nothing else of the state differs but those bytes (R36, R80). -/
def dataTaken (s : State) (u : UnitAddr) (d : Descriptor) (addr : Byte) (data : List Byte) (t : State) (f : CtlFrame)
    (x : Context) (placed : List Byte) (at_ : Word) : Prop :=
  exec (.reqInData addr false data) s = .next t ∧ answering .dataIn .inData u f s t ∧ viaPoll s t ∧
    t.lnk.conn = s.lnk.conn ∧ (∀ a : StoreAddr, t.byteAt a = placedAt d.discard at_ placed a (s.byteAt a)) ∧
    t.ctb = ((s.begun u).modCtx u (fun _ => x)).ctb ∧ t.str.pages = (s.begun u).str.pages ∧ t.ports = s.ports ∧
    t.rcm = s.rcm ∧ t.dsc = s.dsc ∧ t.pending = s.pending

theorem dataTaken_of {placed : List Byte} {at_ : Word} {f : Context → Context} {ok : Bool} {y : CtlFrame} {x : Context}
    (hst : s.storeOk) (h : s.hears u) (hn : names addr u) (h1 : 1 ≤ data.length) (h2 : data.length ≤ 16)
    (hd : (s.ctx u).desc = some d) (hk : d.kind = .input) (hl : at_.toNat + placed.length ≤ 32768)
    (hrun : placeFrame (data.length + 1) u data ((s.begun u).modLnk Lnk.heard) =
      ((putBytes d.discard at_ placed ((s.begun u).modLnk Lnk.heard)).modCtx u f, ok))
    (hy : dataFrame u ok = y) (hx : f ((s.begun u).ctx u) = x) : ∃ t, dataTaken s u d addr data t y x placed at_ := by
  obtain ⟨n, b, o, ha, he⟩ := exec_reqInData h hn h1 h2 hd hk
  rw [hrun, hy] at he
  obtain ⟨hports, hlnk, hrcm, hdsc, hpend⟩ := (begun_sameOutside hd).parts
  obtain ⟨pports, -, prcm, pdsc, ppend⟩ :=
    (putBytes_sameOutside d.discard at_ placed ((s.begun u).modLnk Lnk.heard)).parts
  have hok : (s.begun u).storeOk := (congrArg _ (begun_store hd)).trans hst
  have hm : ((s.begun u).modLnk Lnk.heard).lnk = s.lnk.heard := congrArg Lnk.heard hlnk
  refine ⟨_, he, answerSent_answering ?_ rfl rfl, answerSent_viaPoll h ha, ?_, fun a => ?_, ?_, ?_, pports.trans hports,
    prcm.trans hrcm, pdsc.trans hdsc, ppend.trans hpend⟩
  · rw [modCtx_lnk, putBytes_lnk, hm]
  · change ((putBytes d.discard at_ placed _).modCtx u f).lnk.conn = _
    rw [modCtx_lnk, putBytes_lnk, hm]
    rfl
  · exact (putBytes_byteAt (s := (s.begun u).modLnk Lnk.heard) hok hl a).trans
      (congrArg _ ((byteAt_modLnk ..).trans (begun_byteAt hd a)))
  · change ((putBytes d.discard at_ placed _).modCtx u f).ctb = _
    simp only [State.modCtx, putBytes_ctx, putBytes_ctb, modLnk_ctx, hx]
    rfl
  · exact putBytes_pages ..

/-- Settles O38: each form of a frame and its segment is one run of the placing, which leaves the bytes, the context and the answer
the obligation names. -/
theorem inputBytesArePlacedUpToTheSegmentsEnd : Obligations.InputBytesArePlacedUpToTheSegmentsEnd := by
  intro s u d addr data hst h hn h1 h2 b c moved answered hd hk
  have hd0 : (s.ctx u).desc = some d := (begun_desc s u).symm.trans hd
  have hd' : ((b.modLnk Lnk.heard).ctx u).desc = some d := hd
  refine ⟨fun g hg hf hl hw => ?_, fun g hg hf hl hw => ?_, fun g p a hg hf hl hl16 ho ha hlink hh hla => ?_,
    fun g hg hf hl hh hla => ?_, fun hg => ?_⟩
  · have hw' : ¬ (d.kind = .input ∧ d.link = .nextSegment ∧ c.lookahead = .absent ∧ c.halt = none ∧
        g.remaining - data.length ≤ 16) := by
      rintro ⟨-, h1, h2, h3, h4⟩
      rcases hw with hw | hw | hw | hw
      · exact hw h1
      · exact hw h2
      · exact hw h3
      · omega
    refine dataTaken_of hst h hn h1 h2 hd0 hk (end_of_fits hf hl) (placeFrame_fit_undue _ hd' hg hl hw') ?_ rfl
    by_cases hh : c.halt = none
    · rw [if_pos hh, decide_eq_true (by simpa [c, b] using hh)]
      rfl
    · rw [if_neg hh, decide_eq_false (by simpa [c, b] using hh)]
      rfl
  · have hlen : (data.take g.remaining).length = g.remaining := List.length_take_of_le hl.le
    have hend := end_of_fits hf hlen.le
    by_cases hh : c.halt = none
    · obtain ⟨hlink, hla⟩ : d.link ≠ .nextSegment ∧ c.lookahead = .absent := hw.resolve_left (not_not_intro hh)
      refine dataTaken_of hst h hn h1 h2 hd0 hk hend (placeFrame_overrun_ends _ hd' hg hl hh hlink hla) rfl ?_
      rw [hlen, decide_eq_true hh]
      rfl
    · refine dataTaken_of hst h hn h1 h2 hd0 hk hend (placeFrame_overrun_halted _ hd' hg hl hh) rfl ?_
      rw [hlen, decide_eq_false hh, Bool.false_and, Bool.or_false]
      rfl
  · have hf' : fetch (.segment .input) p (putBytes d.discard g.addr data (b.modLnk Lnk.heard)) (a.toNat + 8) =
        fetch (.segment .input) p (if d.discard then b else b.writeBytes g.addr data) (a.toNat + 8) :=
      fetch_congr (by rw [putBytes_modLnk]; rfl) _ _ _
    refine dataTaken_of hst h hn h1 h2 hd0 hk (end_of_fits hf hl)
      (placeFrame_fit_due _ hd' hg hl ha ho ⟨hk, hlink, hla, hh, hl16⟩) rfl ?_
    rw [hf']
    rfl
  · have hlen : (data.take g.remaining).length = g.remaining := List.length_take_of_le hl.le
    refine dataTaken_of hst h hn h1 h2 hd0 hk (end_of_fits hf hlen.le)
      (placeFrame_overrun_faulted _ hd' hg hl hh hla) rfl ?_
    change { c with seg := _, conds := _, halt := some (c.halt.getD .storeFault) } = _
    rw [hlen, hh]
    rfl
  · refine dataTaken_of hst h hn h1 h2 hd0 hk (placed := []) (at_ := 0) (ok := false) (f := fun _ => b.ctx u) (by simp)
      ((placeFrame_of_none (s := b.modLnk Lnk.heard) _ hg).trans ?_) rfl rfl
    refine congrArg (·, false) (Eq.trans (modCtx_id (b.modLnk Lnk.heard) u).symm ?_)
    cases d.discard <;> rfl

end

end Sys2Proof.OrderRequests
end

section
/-! PROOFS. A frame that overruns its segment and goes on in the SEG looked ahead: the switch, its MILESTONE, and the bytes left. -/

namespace Sys2Proof.SegmentSwitch

open Sys2Proof.Machine Sys2Proof.Laws Sys2Proof.StepActs Sys2Proof.UnitContexts Sys2Proof.SegmentSteps
  Sys2Proof.OrderRequests

section
variable {s t : State} {u : UnitAddr} {p : Port} {d x : Descriptor} {g : Segment} {a : Word} {addr : Byte} {data bs : List Byte}

/-! ### A MILESTONE offered where its descriptor carries one (R33, R130) -/

/-- The state once a descriptor's MILESTONE has been offered, if it carries one. -/
def announced (carries : Bool) (u : UnitAddr) (a : Word) (s : State) : State :=
  if carries then offerMilestone u a s else s

theorem announced_offered (carries : Bool) (a : Word) (ho : (s.ctx u).owner = some p) :
    milestoneOffered carries u p a s (announced carries u a s) := by
  cases carries
  · exact ⟨nofun, nofun, fun _ => ⟨rfl, rfl, rfl⟩, rfl, rfl, rfl, rfl⟩
  · obtain ⟨h, -, -⟩ := offerMilestone_spec s u p a ho
    exact h

theorem announced_ctx (carries : Bool) (a : Word) (ho : (s.ctx u).owner = some p) :
    (announced carries u a s).ctx u =
      { s.ctx u with milestoneMissed := ((announced carries u a s).ctx u).milestoneMissed } := by
  cases carries
  · rfl
  · obtain ⟨-, h, -⟩ := offerMilestone_spec s u p a ho
    exact h

theorem announced_ctx_of_ne (carries : Bool) (a : Word) (ho : (s.ctx u).owner = some p) {v : UnitAddr} (hv : v ≠ u) :
    (announced carries u a s).ctx v = s.ctx v := by
  cases carries
  · rfl
  · obtain ⟨-, -, h⟩ := offerMilestone_spec s u p a ho
    exact h v hv

/-- A MILESTONE offered leaves all but RCM and its own context as they were. -/
theorem announced_parts (carries : Bool) (u : UnitAddr) (a : Word) (s : State) :
    (announced carries u a s).ports = s.ports ∧ (announced carries u a s).ctb.selectQ = s.ctb.selectQ ∧
      (announced carries u a s).ctb.stopQ = s.ctb.stopQ ∧ (announced carries u a s).lnk = s.lnk ∧
      (announced carries u a s).str = s.str ∧ (announced carries u a s).dsc = s.dsc ∧
      (announced carries u a s).pending = s.pending := by
  cases carries
  · exact ⟨rfl, rfl, rfl, rfl, rfl, rfl, rfl⟩
  · refine ⟨offerMilestone_ports .., offerMilestone_selectQ .., offerMilestone_stopQ .., offerMilestone_lnk .., ?_,
      offerMilestone_dsc .., offerMilestone_pending ..⟩
    change (offerMilestone u a s).str = s.str
    unfold offerMilestone
    (repeat' split) <;> rfl

theorem announced_modLnk (carries : Bool) (f : Lnk → Lnk) :
    announced carries u a (s.modLnk f) = (announced carries u a s).modLnk f := by
  cases carries
  · rfl
  · change offerMilestone u a (s.modLnk f) = (offerMilestone u a s).modLnk f
    unfold offerMilestone
    simp only [modLnk_ctx, show ∀ p, (s.modLnk f).queueFull p = s.queueFull p from fun _ => rfl]
    (repeat' split) <;> rfl

/-- What is offered is read from the queues and the mark of a missed MILESTONE alone. -/
theorem milestoneOffered_congr {carries : Bool} {s' t' : State} (h : milestoneOffered carries u p a s t)
    (hs : s'.rcm = s.rcm) (ht : t'.rcm = t.rcm) (ms : (s'.ctx u).milestoneMissed = (s.ctx u).milestoneMissed)
    (mt : (t'.ctx u).milestoneMissed = (t.ctx u).milestoneMissed) : milestoneOffered carries u p a s' t' := by
  unfold milestoneOffered roomIn State.queue State.seqNo State.heldList at *
  rw [hs, ht, ms, mt]
  exact h

/-! ### The switch (R31 to R33) -/

theorem raisePage_page (r q : PageNo) : (s.raisePage r).page q =
    { s.page q with uses := (s.page q).uses + if q = r then 1 else 0 } := by
  by_cases h : q = r <;> simp [State.raisePage, h]

theorem lowerPage_page (r q : PageNo) : (s.lowerPage r).page q =
    { s.page q with uses := (s.page q).uses - if q = r then 1 else 0 } := by
  by_cases h : q = r <;> simp [State.lowerPage, h]

/-- The new page is counted, and the old one let go, in that order (R32, R49). -/
theorem replaceSegment_page {n : Nat} (hg : (s.ctx u).seg = some g) (q : PageNo) :
    ((replaceSegment u a n s).page q).tag = (s.page q).tag ∧ ((replaceSegment u a n s).page q).uses =
      (s.page q).uses + (if q = pageOf a then 1 else 0) - (if q = g.page then 1 else 0) := by
  rw [replaceSegment, hg, modCtx_page, State.lowerSeg, lowerPage_page, raisePage_page]
  exact ⟨rfl, rfl⟩

theorem ctx_of_ctb (h : t.ctb = s.ctb) (v : UnitAddr) : t.ctx v = s.ctx v := by
  rw [State.ctx, h]
  rfl

theorem replaceSegment_parts {n : Nat} : (replaceSegment u a n s).ctb.selectQ = s.ctb.selectQ ∧
    (replaceSegment u a n s).ctb.stopQ = s.ctb.stopQ ∧ (replaceSegment u a n s).str.store = s.str.store := by
  rw [replaceSegment]
  cases (s.ctx u).seg <;> exact ⟨rfl, rfl, rfl⟩

theorem replaceSegment_modLnk {n : Nat} (f : Lnk → Lnk) :
    replaceSegment u a n (s.modLnk f) = (replaceSegment u a n s).modLnk f := by
  rw [replaceSegment, replaceSegment, modLnk_ctx]
  cases (s.ctx u).seg <;> rfl

/-- The state once a switch has been made, its MILESTONE offered. -/
def switchMade (u : UnitAddr) (x : Descriptor) (a : Word) (s : State) : State :=
  announced x.milestone u a (switched u x a s)

theorem switchTo_made (ho : (s.ctx u).owner = some p) (hp : s.pageOpen p (pageOf x.addr) = true) :
    switchTo u x a s = (switchMade u x a s, true) := switchTo_of_open a ho hp

theorem switchMade_modLnk (f : Lnk → Lnk) : switchMade u x a (s.modLnk f) = (switchMade u x a s).modLnk f := by
  rw [switchMade, switched, replaceSegment_modLnk]
  exact announced_modLnk (s := switched u x a s) _ _

/-- The context of a unit that has switched to a SEG (R33). -/
def switchedContext (d x : Descriptor) (a : Word) (c : Context) : Context :=
  { c with desc := some (d.follow x), descAddr := some a, lookahead := .absent,
           seg := some { addr := x.addr, remaining := x.count.toNat, page := pageOf x.addr } }

theorem switched_ctx (hd : (s.ctx u).desc = some d) :
    (switched u x a s).ctx u = switchedContext d x a (s.ctx u) := by
  simp [switched, hd, switchedContext]

theorem switchMade_ctx (hd : (s.ctx u).desc = some d) (ho : (s.ctx u).owner = some p) : (switchMade u x a s).ctx u =
    { switchedContext d x a (s.ctx u) with milestoneMissed := ((switchMade u x a s).ctx u).milestoneMissed } := by
  have hc := switched_ctx (x := x) (a := a) hd
  have h := announced_ctx (s := switched u x a s) x.milestone a (by rw [hc]; exact ho)
  rw [hc] at h
  exact h

theorem switchMade_ctx_of_ne (hd : (s.ctx u).desc = some d) (ho : (s.ctx u).owner = some p) {v : UnitAddr} (hv : v ≠ u) :
    (switchMade u x a s).ctx v = s.ctx v := by
  have hc := switched_ctx (x := x) (a := a) hd
  rw [switchMade, announced_ctx_of_ne _ _ (by rw [hc]; exact ho) hv]
  simp [switched, hv]

/-- A switch leaves the queues of CTB, the ports, LNK, the store and DSC as they were. -/
theorem switchMade_parts (u : UnitAddr) (x : Descriptor) (a : Word) (s : State) :
    (switchMade u x a s).ports = s.ports ∧ (switchMade u x a s).ctb.selectQ = s.ctb.selectQ ∧
      (switchMade u x a s).ctb.stopQ = s.ctb.stopQ ∧ (switchMade u x a s).lnk = s.lnk ∧
      (switchMade u x a s).str.store = s.str.store ∧ (switchMade u x a s).dsc = s.dsc ∧
      (switchMade u x a s).pending = s.pending := by
  obtain ⟨h1, h2, h3, h4, h5, h6, h7⟩ := announced_parts x.milestone u a (switched u x a s)
  obtain ⟨r1, r2, -, r4, r5⟩ := (replaceSegment_sameOutside (s := s) (u := u) (a := x.addr) (n := x.count.toNat)).parts
  obtain ⟨q1, q2, q3⟩ := replaceSegment_parts (s := s) (u := u) (a := x.addr) (n := x.count.toNat)
  exact ⟨h1.trans r1, h2.trans q1, h3.trans q2, h4.trans r2, (congrArg Str.store h5).trans q3, h6.trans r4, h7.trans r5⟩

theorem switchMade_page (hg : (s.ctx u).seg = some g) (q : PageNo) :
    ((switchMade u x a s).page q).tag = (s.page q).tag ∧ ((switchMade u x a s).page q).uses =
      (s.page q).uses + (if q = pageOf x.addr then 1 else 0) - (if q = g.page then 1 else 0) := by
  obtain ⟨-, -, -, -, hstr, -, -⟩ := announced_parts x.milestone u a (switched u x a s)
  have hp : (switchMade u x a s).page q = (replaceSegment u x.addr x.count.toNat s).page q := by
    rw [switchMade, State.page, hstr]
    rfl
  rw [hp]
  exact replaceSegment_page hg q

theorem switchMade_offered (hd : (s.ctx u).desc = some d) (ho : (s.ctx u).owner = some p) :
    milestoneOffered x.milestone u p a s (switchMade u x a s) := by
  have hc := switched_ctx (x := x) (a := a) hd
  obtain ⟨-, -, hrcm, -, -⟩ := (replaceSegment_sameOutside (s := s) (u := u) (a := x.addr) (n := x.count.toNat)).parts
  refine milestoneOffered_congr (announced_offered (s := switched u x a s) x.milestone a (by rw [hc]; exact ho)) hrcm.symm rfl ?_ rfl
  rw [hc]
  rfl

/-! ### The bytes that fill a segment, and the SEG entered for the rest (R36) -/

/-- Bytes that fit have gone to a segment, which has moved on by them (R36 step 1). -/
def filled (u : UnitAddr) (d : Descriptor) (g : Segment) (bs : List Byte) (s : State) : State :=
  (putBytes d.discard g.addr bs s).modCtx u (fun c =>
    { c with seg := some (advanced g bs.length) })

/-- The SEG looked ahead has been entered, its own lookahead taken when it is due. -/
def entered (u : UnitAddr) (d : Descriptor) (g : Segment) (x : Descriptor) (a : Word) (data : List Byte) (s : State) : State :=
  testLookahead u (switchMade u x a (filled u d g (data.take g.remaining) s))

theorem filled_ctx : (filled u d g bs s).ctx u =
    { s.ctx u with seg := some (advanced g bs.length) } := by
  simp [filled]

theorem filled_ctx_of_ne {v : UnitAddr} (hv : v ≠ u) : (filled u d g bs s).ctx v = s.ctx v := by
  simp [filled, hv]

theorem filled_page (q : PageNo) : (filled u d g bs s).page q = s.page q := by
  rw [filled, modCtx_page, State.page, putBytes_pages]
  rfl

theorem filled_pageOpen (q : PageNo) : (filled u d g bs s).pageOpen p q = s.pageOpen p q :=
  pageOpen_congr (by rw [filled_page])

theorem filled_parts (u : UnitAddr) (d : Descriptor) (g : Segment) (bs : List Byte) (s : State) :
    (filled u d g bs s).ports = s.ports ∧ (filled u d g bs s).ctb.selectQ = s.ctb.selectQ ∧
      (filled u d g bs s).ctb.stopQ = s.ctb.stopQ ∧ (filled u d g bs s).lnk = s.lnk ∧
      (filled u d g bs s).rcm = s.rcm ∧ (filled u d g bs s).dsc = s.dsc ∧ (filled u d g bs s).pending = s.pending := by
  obtain ⟨h1, h2, h3, h4, h5⟩ := (putBytes_sameOutside d.discard g.addr bs s).parts
  have hc := putBytes_ctb d.discard g.addr bs s
  exact ⟨h1, (modCtx_selectQ ..).trans (congrArg Ctb.selectQ hc), (modCtx_stopQ ..).trans (congrArg Ctb.stopQ hc), h2, h3, h4, h5⟩

theorem filled_modLnk (f : Lnk → Lnk) : filled u d g bs (s.modLnk f) = (filled u d g bs s).modLnk f := by
  rw [filled, putBytes_modLnk]
  rfl

theorem entered_modLnk {y : Descriptor} (f : Lnk → Lnk) :
    entered u d g y a data (s.modLnk f) = (entered u d g y a data s).modLnk f := by
  rw [entered, filled_modLnk, switchMade_modLnk, testLookahead_modLnk]
  rfl

/-- A frame that overruns its segment goes on in the SEG looked ahead, whose page is open (R36). -/
theorem placeFrame_overrun_enters (n : Nat) (hd : (s.ctx u).desc = some d) (hg : (s.ctx u).seg = some g)
    (hl : g.remaining < data.length) (hh : (s.ctx u).halt = none) (hla : (s.ctx u).lookahead = .present x a)
    (ho : (s.ctx u).owner = some p) (hp : s.pageOpen p (pageOf x.addr) = true) : placeFrame (n + 1) u data s =
    placeFrame n u (data.drop g.remaining) (entered u d g x a data s) := by
  have hfill : testLookahead u (placeSome u g (data.take g.remaining) s) = filled u d g (data.take g.remaining) s :=
    testLookahead_placeSome hd fun ⟨_, _, habs, _⟩ => by simp [hla] at habs
  have hmade : switchTo u x a (filled u d g (data.take g.remaining) s) = (switchMade u x a (filled u d g (data.take g.remaining) s), true) :=
    switchTo_made (by rw [filled_ctx]; exact ho) (by rw [filled_pageOpen]; exact hp)
  rw [placeFrame_of_present n hg hl hfill (by rw [filled_ctx]; exact hh) (by rw [filled_ctx]; exact hla), hmade]
  rfl

/-- A frame that overruns its segment, and whose switch fails its page check (R38). -/
theorem placeFrame_overrun_closed (n : Nat) (hd : (s.ctx u).desc = some d) (hg : (s.ctx u).seg = some g)
    (hl : g.remaining < data.length) (hh : (s.ctx u).halt = none) (hla : (s.ctx u).lookahead = .present x a)
    (ho : (s.ctx u).owner = some p) (hp : s.pageOpen p (pageOf x.addr) = false) : placeFrame (n + 1) u data s =
    ((putBytes d.discard g.addr (data.take g.remaining) s).modCtx u (fun c => { c with
      seg := some (advanced g (data.take g.remaining).length), conds := c.conds.add .storeFault,
      halt := some (c.halt.getD .storeFault), lookahead := .absent }), false) := by
  have hfill : testLookahead u (placeSome u g (data.take g.remaining) s) = filled u d g (data.take g.remaining) s :=
    testLookahead_placeSome hd fun ⟨_, _, habs, _⟩ => by simp [hla] at habs
  have hclosed : ∀ y, ((filled u d g (data.take g.remaining) s).ctx u).owner = some y →
      (filled u d g (data.take g.remaining) s).pageOpen y (pageOf x.addr) = false := by
    intro y hy
    rw [filled_ctx] at hy
    obtain rfl : p = y := Option.some.inj (ho.symm.trans hy)
    rwa [filled_pageOpen]
  rw [placeFrame_of_present n hg hl hfill (by rw [filled_ctx]; exact hh) (by rw [filled_ctx]; exact hla),
    switchTo_of_closed a (becomeCurrent_of_closed hclosed), if_neg (by simp), dataFault_eq, filled, modCtx_modCtx,
    modCtx_modCtx]

/-! ### How many segments one frame can reach -/

/-- A SEG has bytes, and they lie in the store (R26 check 6). -/
theorem seg_bounds (hk : d.kind = .seg) (hf : d.areaFits) :
    1 ≤ d.count.toNat ∧ d.addr.toNat + d.count.toNat ≤ 32768 := by
  rcases hf with h | h | ⟨h1, h2, h3⟩
  · simp [hk] at h
  · simp [hk] at h
  · omega

/-- A SEG looked ahead has bytes. -/
def looksAheadToBytes (u : UnitAddr) (s : State) : Prop :=
  ∀ d a, (s.ctx u).lookahead = .present d a → 1 ≤ d.count.toNat

theorem testLookahead_looksAheadToBytes (h : looksAheadToBytes u s) : looksAheadToBytes u (testLookahead u s) := by
  rcases testLookahead_cases u s with ht | ⟨l, n, hl, ht⟩ <;> rw [ht]
  · exact h
  · intro d a hd
    rw [ctx_modCtx, if_pos rfl] at hd
    obtain ⟨hk, hf⟩ := hl d a hd
    exact (seg_bounds hk hf).1

theorem testLookahead_ctx (u : UnitAddr) (s : State) : (testLookahead u s).ctx u =
    { s.ctx u with lookahead := ((testLookahead u s).ctx u).lookahead, jumps := ((testLookahead u s).ctx u).jumps } := by
  rcases testLookahead_cases u s with h | ⟨l, n, -, h⟩ <;> rw [h]
  simp

/-- The context that has entered a SEG, but for its MILESTONE and its lookahead. -/
theorem entered_ctx (hd : (s.ctx u).desc = some d) (ho : (s.ctx u).owner = some p) :
    (entered u d g x a data s).ctx u = { switchedContext d x a (s.ctx u) with
      lookahead := ((entered u d g x a data s).ctx u).lookahead,
      jumps := ((entered u d g x a data s).ctx u).jumps,
      milestoneMissed := ((entered u d g x a data s).ctx u).milestoneMissed } := by
  have hm := switchMade_ctx (s := filled u d g (data.take g.remaining) s) (x := x) (a := a) (d := d) (p := p) (by rw [filled_ctx]; exact hd)
    (by rw [filled_ctx]; exact ho)
  have ht := testLookahead_ctx u (switchMade u x a (filled u d g (data.take g.remaining) s))
  rw [hm] at ht
  rw [entered, ht, hm, filled_ctx]
  rfl

/-- A SEG that is entered has a segment with bytes. -/
def hasBytes (u : UnitAddr) (s : State) : Prop := ∀ g, (s.ctx u).seg = some g → 1 ≤ g.remaining

/-- A context that has switched has its new segment, and no lookahead yet. -/
theorem switchMade_seg (ho : (s.ctx u).owner = some p) :
    ((switchMade u x a s).ctx u).seg = some { addr := x.addr, remaining := x.count.toNat, page := pageOf x.addr } ∧
      ((switchMade u x a s).ctx u).lookahead = .absent := by
  rw [switchMade, announced_ctx (p := p) _ _ (by simpa [switched] using ho)]
  simp [switched]

theorem testLookahead_seg : ((testLookahead u s).ctx u).seg = (s.ctx u).seg := by rw [testLookahead_ctx]

/-- The SEG a switch enters has bytes, and the SEG it looks ahead has bytes too. -/
theorem switchTo_bytes (hx : 1 ≤ x.count.toNat) (hok : (switchTo u x a s).2 = true) :
    hasBytes u (testLookahead u (switchTo u x a s).1) ∧ looksAheadToBytes u (testLookahead u (switchTo u x a s).1) := by
  rcases switchTo_cases u x a s with ⟨p, ho, -, h⟩ | h
  · rw [h]
    obtain ⟨hseg, hla⟩ := switchMade_seg (x := x) (a := a) ho
    refine ⟨fun g hg => ?_, testLookahead_looksAheadToBytes fun d b hd => ?_⟩
    · rw [testLookahead_seg] at hg
      obtain rfl := Option.some.inj (hseg.symm.trans hg)
      exact hx
    · exact absurd (hla.symm.trans hd) nofun
  · rw [h] at hok
    cases hok

/-- Each segment but the first takes a byte, so a frame never needs more segments than it has bytes. -/
theorem placeFrame_fuel : ∀ (n m : Nat) (data : List Byte) (s : State), hasBytes u s → looksAheadToBytes u s →
    data ≠ [] → data.length ≤ n → data.length ≤ m → placeFrame n u data s = placeFrame m u data s := by
  intro n
  induction n with
  | zero =>
    intro m data s _ _ hne hn
    exact absurd (List.length_eq_zero_iff.mp (Nat.le_zero.mp hn)) hne
  | succ n ih =>
    intro m data s hb hla hne hn hm
    cases m with
    | zero => exact absurd (List.length_eq_zero_iff.mp (Nat.le_zero.mp hm)) hne
    | succ m =>
      cases hg : (s.ctx u).seg with
      | none => rw [placeFrame_of_none _ hg, placeFrame_of_none _ hg]
      | some g =>
        have hg1 := hb g hg
        by_cases hl : data.length ≤ g.remaining
        · rw [placeFrame_of_fit n hg hl, placeFrame_of_fit m hg hl]
        · rw [not_le] at hl
          generalize ht : testLookahead u (placeSome u g (data.take g.remaining) s) = t
          have htla : looksAheadToBytes u t := ht ▸ testLookahead_looksAheadToBytes fun d a hd => by
            rw [placeSome_ctx, if_pos rfl] at hd
            exact hla d a hd
          by_cases hh : (t.ctx u).halt = none
          · cases hx : (t.ctx u).lookahead with
            | absent => rw [placeFrame_of_absent n hg hl ht hh hx, placeFrame_of_absent m hg hl ht hh hx]
            | faulted => rw [placeFrame_of_faulted n hg hl ht hh hx, placeFrame_of_faulted m hg hl ht hh hx]
            | present x a =>
              rw [placeFrame_of_present n hg hl ht hh hx, placeFrame_of_present m hg hl ht hh hx]
              by_cases hok : (switchTo u x a t).2 = true
              · obtain ⟨hb', hla'⟩ := switchTo_bytes (htla x a hx) hok
                rw [if_pos hok, if_pos hok]
                refine ih m _ _ hb' hla' (bytes_left hl) ?_ ?_ <;> rw [List.length_drop] <;> omega
              · rw [if_neg hok, if_neg hok]
          · rw [placeFrame_of_halted n hg hl ht hh, placeFrame_of_halted m hg hl ht hh]

/-! ### The SEG entered (R31 to R36) -/

theorem entered_bytes (ho : (s.ctx u).owner = some p) (hp : s.pageOpen p (pageOf x.addr) = true) (hx : 1 ≤ x.count.toNat) :
    hasBytes u (entered u d g x a data s) ∧ looksAheadToBytes u (entered u d g x a data s) := by
  have hmade : switchTo u x a (filled u d g (data.take g.remaining) s) = (switchMade u x a (filled u d g (data.take g.remaining) s), true) :=
    switchTo_made (by rw [filled_ctx]; exact ho) (by rw [filled_pageOpen]; exact hp)
  have h := switchTo_bytes (u := u) (s := filled u d g (data.take g.remaining) s) (a := a) hx (by rw [hmade])
  rwa [hmade] at h

theorem entered_ctx_of_ne (hd : (s.ctx u).desc = some d) (ho : (s.ctx u).owner = some p) {v : UnitAddr} (hv : v ≠ u) :
    (entered u d g x a data s).ctx v = s.ctx v := by
  have hm : (switchMade u x a (filled u d g (data.take g.remaining) s)).ctx v = s.ctx v := by
    rw [switchMade_ctx_of_ne (d := d) (p := p) (by rw [filled_ctx]; exact hd) (by rw [filled_ctx]; exact ho) hv,
      filled_ctx_of_ne hv]
  rw [entered]
  rcases testLookahead_cases u (switchMade u x a (filled u d g (data.take g.remaining) s)) with h | ⟨l, n, -, h⟩ <;> rw [h]
  · exact hm
  · rw [ctx_modCtx, if_neg hv, hm]

theorem entered_parts (u : UnitAddr) (d : Descriptor) (g : Segment) (x : Descriptor) (a : Word) (data : List Byte)
    (s : State) : (entered u d g x a data s).ports = s.ports ∧ (entered u d g x a data s).ctb.selectQ = s.ctb.selectQ ∧
      (entered u d g x a data s).ctb.stopQ = s.ctb.stopQ ∧ (entered u d g x a data s).lnk = s.lnk ∧
      (entered u d g x a data s).str.store = (filled u d g (data.take g.remaining) s).str.store ∧
      (entered u d g x a data s).dsc = s.dsc ∧ (entered u d g x a data s).pending = s.pending := by
  obtain ⟨h1, h2, h3, h4, h5, h6, h7⟩ := switchMade_parts u x a (filled u d g (data.take g.remaining) s)
  obtain ⟨f1, f2, f3, f4, -, f6, f7⟩ := filled_parts u d g (data.take g.remaining) s
  exact ⟨(testLookahead_ports ..).trans (h1.trans f1), (testLookahead_selectQ ..).trans (h2.trans f2),
    (testLookahead_stopQ ..).trans (h3.trans f3), (testLookahead_lnk ..).trans (h4.trans f4),
    (testLookahead_store ..).trans h5, (testLookahead_dsc ..).trans (h6.trans f6),
    (testLookahead_pending ..).trans (h7.trans f7)⟩

theorem entered_page (q : PageNo) :
    ((entered u d g x a data s).page q).tag = (s.page q).tag ∧ ((entered u d g x a data s).page q).uses =
      (s.page q).uses + (if q = pageOf x.addr then 1 else 0) - (if q = g.page then 1 else 0) := by
  have h := switchMade_page (s := filled u d g (data.take g.remaining) s) (u := u) (x := x) (a := a)
    (g := advanced g (data.take g.remaining).length) (by rw [filled_ctx]) q
  rw [filled_page] at h
  rw [entered, testLookahead_page]
  exact h

theorem entered_offered (hd : (s.ctx u).desc = some d) (ho : (s.ctx u).owner = some p) :
    milestoneOffered x.milestone u p a s (entered u d g x a data s) := by
  obtain ⟨-, -, -, -, hrcm, -, -⟩ := filled_parts u d g (data.take g.remaining) s
  obtain ⟨-, -, trcm, -, -⟩ :=
    (testLookahead_sameOutside (u := u) (s := switchMade u x a (filled u d g (data.take g.remaining) s))).parts
  refine milestoneOffered_congr (switchMade_offered (s := filled u d g (data.take g.remaining) s) (x := x) (a := a) (d := d) (p := p)
    (by rw [filled_ctx]; exact hd) (by rw [filled_ctx]; exact ho)) hrcm.symm trcm ?_ ?_
  · rw [filled_ctx]
  · rw [entered, testLookahead_ctx]

theorem filled_byteAt (hst : s.storeOk) (hl : g.addr.toNat + bs.length ≤ 32768) (i : StoreAddr) :
    (filled u d g bs s).byteAt i = placedAt d.discard g.addr bs i (s.byteAt i) := putBytes_byteAt hst hl i

theorem entered_byteAt (hst : s.storeOk) (hf : g.fits) (hl : g.remaining < data.length) (i : StoreAddr) :
    (entered u d g x a data s).byteAt i = placedAt d.discard g.addr (data.take g.remaining) i (s.byteAt i) := by
  obtain ⟨-, -, -, -, hstore, -, -⟩ := entered_parts u d g x a data s
  rw [State.byteAt, hstore]
  exact filled_byteAt hst (end_of_fits hf (List.length_take_of_le hl.le).le) i

theorem filled_storeOk (hst : s.storeOk) : (filled u d g bs s).storeOk := by
  change (putBytes d.discard g.addr bs s).storeOk
  unfold putBytes
  split
  · exact hst
  · exact writeBytes_storeOk _ _ hst

theorem entered_storeOk (hst : s.storeOk) : (entered u d g x a data s).storeOk := by
  obtain ⟨-, -, -, -, hstore, -, -⟩ := entered_parts u d g x a data s
  rw [State.storeOk, hstore]
  exact filled_storeOk hst

/-- The lookahead that a SEG's own trigger takes on entry, when it is due (R34, R35). -/
theorem entered_lookahead (hd : (s.ctx u).desc = some d) (hk : d.kind = .input) (hh : (s.ctx u).halt = none)
    (ho : (s.ctx u).owner = some p) :
    ((entered u d g x a data s).ctx u).lookahead = (if x.link = .nextSegment ∧ x.count.toNat ≤ 16 then
        lookaheadOf (fetch (.segment .input) p (putBytes d.discard g.addr (data.take g.remaining) s) (a.toNat + 8))
        else .absent) ∧
      ((entered u d g x a data s).ctx u).jumps = (if x.link = .nextSegment ∧ x.count.toNat ≤ 16 then
        (fetch (.segment .input) p (putBytes d.discard g.addr (data.take g.remaining) s) (a.toNat + 8)).jumps
        else (s.ctx u).jumps) := by
  have hm := switchMade_ctx (s := filled u d g (data.take g.remaining) s) (x := x) (a := a) (d := d) (p := p) (by rw [filled_ctx]; exact hd)
    (by rw [filled_ctx]; exact ho)
  rw [filled_ctx] at hm
  have hw : ((switchMade u x a (filled u d g (data.take g.remaining) s)).ctx u).wantsLookahead = true ↔
      x.link = .nextSegment ∧ x.count.toNat ≤ 16 := by
    rw [wantsLookahead_iff (d := d.follow x)
      (g := { addr := x.addr, remaining := x.count.toNat, page := pageOf x.addr }) (by rw [hm]; rfl) (by rw [hm]; rfl), hm]
    simp [Descriptor.follow, hk, switchedContext, hh]
  obtain ⟨-, -, -, -, hstore, -, -⟩ := switchMade_parts u x a (filled u d g (data.take g.remaining) s)
  have hf : fetch (.segment .input) p (switchMade u x a (filled u d g (data.take g.remaining) s)) (a.toNat + 8) =
      fetch (.segment .input) p (putBytes d.discard g.addr (data.take g.remaining) s) (a.toNat + 8) :=
    fetch_of_tags hstore (fun q => (switchMade_page (by rw [filled_ctx]) q).1) _ _ _
  by_cases hdue : x.link = .nextSegment ∧ x.count.toNat ≤ 16
  · have hn : ((switchMade u x a (filled u d g (data.take g.remaining) s)).ctx u).nextDesc = a.toNat + 8 := by rw [hm]; rfl
    rw [entered, testLookahead_of_due (hw.mpr hdue) (p := p) (by rw [hm]; exact ho), hn, hf, if_pos hdue, if_pos hdue]
    simp
  · rw [entered, testLookahead_of_undue (Bool.eq_false_iff.mpr (mt hw.mp hdue)), hm, if_neg hdue, if_neg hdue]
    exact ⟨rfl, rfl⟩

/-! ### A frame taken again by the context that has entered the SEG (R36) -/

/-- What makes a first segment current leaves alone in a context. -/
theorem begun_ctx (hd : (s.ctx u).desc = some d) : (s.begun u).ctx u = { (s.served u).ctx u with
    seg := ((s.begun u).ctx u).seg, lookahead := ((s.begun u).ctx u).lookahead, jumps := ((s.begun u).ctx u).jumps,
    conds := ((s.begun u).ctx u).conds, halt := ((s.begun u).ctx u).halt } := by
  rw [begun_eq_of_desc hd]
  rcases ensureSegment_cases u (s.served u) with h | h | h <;> rw [h]
  · rw [testLookahead_ctx, replaceSegment_ctx, if_pos rfl]
  · rw [testLookahead_ctx, dataFault_eq, ctx_modCtx, if_pos rfl]

theorem begun_queues (hd : (s.ctx u).desc = some d) :
    (s.begun u).ctb.selectQ = (s.served u).ctb.selectQ ∧ (s.begun u).ctb.stopQ = (s.served u).ctb.stopQ := by
  rw [begun_eq_of_desc hd]
  unfold ensureSegment
  split <;> simp

theorem hears_congr (hl : t.lnk = s.lnk) (hd : t.dsc = s.dsc) (hs : (t.ctx u).state = (s.ctx u).state) (h : s.hears u) :
    t.hears u := by
  have ha : t.awaits = s.awaits := by rw [State.awaits, hl]; rfl
  have he : t.entry u = s.entry u := by rw [State.entry, hd]; rfl
  simpa only [State.hears, State.long, State.holds, State.polls, State.awaitsReply, hl, ha, he, hs] using h

/-- The tries, the note of a corrupt frame and the opener that a REQ reaches its order with, read from LNK (R71, R74, R77). -/
def heardOf (l : Lnk) : Nat × Bool × Option GrantKind :=
  match l.link, l.exchange with
  | .exchange, some e => if e.kind = .request then (e.tries + 1, e.corrupt, none) else (1, false, some .poll)
  | _, _ => (1, false, none)

theorem heardAs_eq {n : Nat} {b : Bool} {o : Option GrantKind} (h : heardAs s n b o) : (n, b, o) = heardOf s.lnk := by
  unfold heardOf
  rcases h with ⟨hl, rfl, rfl, rfl⟩ | ⟨e, ⟨hl, he, -⟩, hk, rfl, rfl, rfl⟩ | ⟨⟨e, -, ⟨hl, he, -⟩, hk⟩, rfl, rfl, rfl⟩
  · rw [hl]
  · rw [hl, he]
    exact (if_pos hk).symm
  · rw [hl, he]
    exact (if_neg (by rw [hk]; nofun)).symm

/-- A unit whose context is put back where its REQ found it is served as it was. -/
theorem served_reopened {st : CtxState} (hst : st = .disconnected ∨ st = .connected) (hc : (s.ctx u).state = .connected)
    (hq : st = .disconnected → (s.ctx u).silence = .stopped ∧ (s.ctx u).stopQueued = false ∧ u ∉ s.ctb.stopQ) :
    (s.modCtx u (fun c => { c with state := st })).served u = s := by
  rw [served_eq, ctx_modCtx, if_pos rfl]
  rcases hst with rfl | rfl
  · obtain ⟨h1, h2, h3⟩ := hq rfl
    have hstop : s.modStopQ (without u) = s := by rw [State.modStopQ, without_of_not_mem h3]
    rw [if_pos rfl, connect, modStopQ_modCtx, hstop, modCtx_modCtx]
    exact (modCtx_congr s u (by rw [← hc, ← h1, ← h2])).trans (modCtx_id s u)
  · rw [if_neg nofun]
    exact (modCtx_congr s u (by rw [← hc])).trans (modCtx_id s u)

/-- What a REQ IN_DATA of these bytes does, from the state its bytes have been placed in. -/
theorem answerSent_inData {n : Nat} {b : Bool} {o : Option GrantKind} {f : CtlFrame} (bs bs' : List Byte) (m : State) :
    answerSent u (.inData bs) n b o f m = answerSent u (.inData bs') n b o f m := rfl

/-- The state from which the rest of a frame is taken as a frame of its own: the SEG entered, the context as the REQ found it. -/
def reopened (s : State) (u : UnitAddr) (m : State) : State := m.modCtx u (fun c => { c with state := (s.ctx u).state })

/-- The rest of a frame that goes on in the SEG entered is taken as a frame of its own would be (R36). -/
theorem exec_left {m : State} (h : s.hears u) (hn : names addr u) (h2 : data.length ≤ 16)
    (hd0 : (s.ctx u).desc = some d) (hk : d.kind = .input) (hl : g.remaining < data.length)
    (hm : m = entered u d g x a data (s.begun u)) (hc : (m.ctx u).state = .connected)
    (hdm : (m.ctx u).desc = some (d.follow x)) (hseg : (m.ctx u).seg ≠ none) (hb : hasBytes u m)
    (hla : looksAheadToBytes u m)
    (hrun : placeFrame (data.length + 1) u data ((s.begun u).modLnk Lnk.heard) =
      placeFrame data.length u (data.drop g.remaining) (m.modLnk Lnk.heard))
    (hq : (s.ctx u).state = .disconnected →
      (m.ctx u).silence = .stopped ∧ (m.ctx u).stopQueued = false ∧ u ∉ m.ctb.stopQ) :
    exec (.reqInData addr false data) s = exec (.reqInData addr false (data.drop g.remaining)) (reopened s u m) := by
  obtain ⟨-, -, -, hlnk, -, hdsc, -⟩ := entered_parts u d g x a data (s.begun u)
  obtain ⟨-, blnk, -, bdsc, -⟩ := (begun_sameOutside hd0).parts
  rw [← hm] at hlnk hdsc
  have hstate : ((reopened s u m).ctx u).state = (s.ctx u).state := by simp [reopened]
  have h' : (reopened s u m).hears u := hears_congr (hlnk.trans blnk) (hdsc.trans bdsc) hstate h
  have hlen : (data.drop g.remaining).length = data.length - g.remaining := List.length_drop
  have hserved : (reopened s u m).served u = m := by
    refine served_reopened ?_ hc hq
    rcases h with (⟨-, -, -, h⟩ | ⟨-, h, -⟩) | ⟨-, -, h⟩
    · exact .inr h
    · exact .inr h
    · exact .inl h
  have hd' : ((reopened s u m).ctx u).desc = some (d.follow x) := by simpa [reopened] using hdm
  have hbegun : (reopened s u m).begun u = m := by
    rw [begun_eq_of_desc hd', hserved, ensureSegment, if_neg (fun hn => hseg hn.1)]
  obtain ⟨n, b, o, ha, he⟩ := exec_reqInData (addr := addr) h hn (by omega) h2 hd0 hk
  obtain ⟨n', b', o', ha', he'⟩ := exec_reqInData (addr := addr) (data := data.drop g.remaining) h' hn (by omega)
    (by omega) hd' (by exact hk)
  have hsame := (heardAs_eq ha').trans ((congrArg heardOf (hlnk.trans blnk)).trans (heardAs_eq ha).symm)
  obtain ⟨rfl, rfl, rfl⟩ : n' = n ∧ b' = b ∧ o' = o := by simpa using hsame
  have hfuel : placeFrame data.length u (data.drop g.remaining) (m.modLnk Lnk.heard) =
      placeFrame ((data.drop g.remaining).length + 1) u (data.drop g.remaining) (m.modLnk Lnk.heard) :=
    placeFrame_fuel _ _ _ _ hb hla (bytes_left hl) (by omega) (by omega)
  rw [he, he', hbegun, hrun, hfuel]
  exact congrArg _ (answerSent_inData _ _ _)

/-- The bytes left by a frame that enters a SEG fit it, and make no further lookahead due (R36). -/
theorem placeFrame_left_fits (hd : (s.ctx u).desc = some d) (hg : (s.ctx u).seg = some g) (hl : g.remaining < data.length)
    (hh : (s.ctx u).halt = none) (hla : (s.ctx u).lookahead = .present x a) (ho : (s.ctx u).owner = some p)
    (hp : s.pageOpen p (pageOf x.addr) = true) (hlen : (data.drop g.remaining).length ≤ x.count.toNat)
    (hundue : x.link ≠ .nextSegment ∨ 16 < x.count.toNat - (data.drop g.remaining).length) :
    placeFrame (data.length + 1) u data s = (filled u (d.follow x)
      { addr := x.addr, remaining := x.count.toNat, page := pageOf x.addr } (data.drop g.remaining)
      (entered u d g x a data s), true) := by
  obtain ⟨k, hk1⟩ : ∃ k, data.length = k + 1 := ⟨data.length - 1, by omega⟩
  have ectx := entered_ctx (x := x) (a := a) (data := data) (g := g) hd ho
  rw [placeFrame_overrun_enters _ hd hg hl hh hla ho hp, hk1, placeFrame_fit_undue (d := d.follow x)
    (g := { addr := x.addr, remaining := x.count.toNat, page := pageOf x.addr }) k (by rw [ectx]; rfl) (by rw [ectx]; rfl)
    hlen, decide_eq_true (by rw [ectx]; exact hh)]
  · rfl
  · rintro ⟨-, hnext, -, -, h16⟩
    exact hundue.elim (fun h => h hnext) (fun h => Nat.not_lt.mpr h16 h)

/-- Settles O39: the frame fills its segment and enters the SEG; its rest is one more placing there, or a frame of its own; a page
check that fails leaves the frame where it stood. -/
theorem anInputSwitchMovesToTheLookahead : Obligations.AnInputSwitchMovesToTheLookahead := by
  intro s u p d x xa g addr data hst h hn h2 b c ho hd hk hlink hg hl hf hh hla hfits hseg page left usesAfter rest
  have hd0 : (s.ctx u).desc = some d := (begun_desc s u).symm.trans hd
  have h1 : 1 ≤ data.length := by omega
  obtain ⟨bports, blnk, brcm, bdsc, bpend⟩ := (begun_sameOutside hd0).parts
  have hok : b.storeOk := (congrArg _ (begun_store hd0)).trans hst
  obtain ⟨hx1, hx2⟩ := seg_bounds hseg hfits
  have hleft : left.length = data.length - g.remaining := List.length_drop
  obtain ⟨eports, eselect, estop, elnk, estore, edsc, epend⟩ := entered_parts u d g x xa data b
  have ectx := entered_ctx (x := x) (a := xa) (data := data) (g := g) hd ho
  obtain ⟨elook, ejumps⟩ := entered_lookahead (x := x) (a := xa) (data := data) (g := g) hd hk hh ho
  have eothers : ∀ v, v ≠ u → (entered u d g x xa data b).ctx v = b.ctx v := fun v hv => entered_ctx_of_ne hd ho hv
  have ebytes : ∀ i : StoreAddr, (entered u d g x xa data b).byteAt i =
      placedAt d.discard g.addr (data.take g.remaining) i (s.byteAt i) := fun i => by
    rw [entered_byteAt hok hf hl, begun_byteAt hd0]
  have hrun : b.pageOpen p page = true → placeFrame (data.length + 1) u data (b.modLnk Lnk.heard) =
      placeFrame data.length u left ((entered u d g x xa data b).modLnk Lnk.heard) := fun hp => by
    rw [placeFrame_overrun_enters (s := b.modLnk Lnk.heard) _ hd hg hl hh hla ho hp, entered_modLnk]
  have hfollow : d.follow x = { x with kind := .input, code := d.code } := by rw [← hk]; rfl
  refine ⟨fun hp hlen hundue => ?_, fun hp => ?_, fun hp => ?_⟩
  · have hundue' : ¬ (x.link = .nextSegment ∧ x.count.toNat ≤ 16) := by
      rintro ⟨h1, h2⟩
      exact hundue.elim (fun h => h h1) (fun h => by omega)
    rw [if_neg hundue'] at elook ejumps
    rw [elook, ejumps, switchedContext, hfollow] at ectx
    obtain ⟨n, o1, o2, ha, he⟩ := exec_reqInData (addr := addr) h hn h1 h2 hd0 hk
    have hrunleft := placeFrame_left_fits (s := b.modLnk Lnk.heard) (p := p) hd hg hl hh hla ho hp hlen hundue
    rw [entered_modLnk, filled_modLnk, hfollow] at hrunleft
    rw [hrunleft] at he
    obtain ⟨fports, fselect, fstop, flnk, frcm, fdsc, fpend⟩ := filled_parts u { x with kind := .input, code := d.code }
      { addr := x.addr, remaining := x.count.toNat, page := page } left (entered u d g x xa data b)
    have hm := congrArg Lnk.heard (flnk.trans (elnk.trans blnk))
    have hc := filled_ctx (u := u) (d := { x with kind := .input, code := d.code })
      (g := { addr := x.addr, remaining := x.count.toNat, page := page }) (bs := left) (s := entered u d g x xa data b)
    have hmiss := congrArg Context.milestoneMissed hc
    dsimp only at hmiss
    have hend : x.addr.toNat + left.length ≤ 32768 := by omega
    refine ⟨_, he, answerSent_answering hm rfl rfl, answerSent_viaPoll h ha, (congrArg Lnk.conn hm :), ?_,
      ⟨fun v hv => (filled_ctx_of_ne hv).trans (eothers v hv), fselect.trans eselect, fstop.trans estop,
        fports.trans (eports.trans bports), fdsc.trans (edsc.trans bdsc), fpend.trans (epend.trans bpend)⟩, ?_,
      fun q => ?_, fun i => ?_⟩
    · rw [← hmiss] at ectx
      rw [ectx] at hc
      exact hc
    · exact milestoneOffered_congr (entered_offered hd ho) rfl frcm rfl hmiss
    · obtain ⟨htag, huses⟩ := entered_page (s := b) (u := u) (d := d) (g := g) (x := x) (a := xa) (data := data) q
      have hq := filled_page (u := u) (d := { x with kind := .input, code := d.code })
        (g := { addr := x.addr, remaining := x.count.toNat, page := page }) (bs := left)
        (s := entered u d g x xa data b) q
      exact ⟨(congrArg PageEntry.tag hq).trans htag, (congrArg PageEntry.uses hq).trans huses⟩
    · rw [← ebytes i]
      exact filled_byteAt (u := u) (entered_storeOk hok) hend i
  · intro w f due
    refine ⟨entered u d g x xa data b, ?_, elnk.trans blnk, ?_, ⟨eothers, eselect, estop, eports.trans bports,
      edsc.trans bdsc, epend.trans bpend⟩, entered_offered hd ho, fun q => entered_page q, ebytes⟩
    · obtain ⟨hb, hahead⟩ := entered_bytes (d := d) (g := g) (a := xa) (data := data) ho hp hx1
      refine exec_left h hn h2 hd0 hk hl rfl ?_ ?_ ?_ hb hahead (hrun hp) fun hs => ?_
      · rw [ectx]
        exact begun_connected h hd0
      · rw [ectx]
        rfl
      · rw [ectx]
        nofun
      · have hbc := begun_ctx hd0
        rw [served_ctx, if_pos hs, if_pos hs, if_pos hs] at hbc
        refine ⟨?_, ?_, ?_⟩
        · rw [ectx, switchedContext, hbc]
        · rw [ectx, switchedContext, hbc]
        · rw [estop, (begun_queues hd0).2, served_eq, if_pos hs]
          exact not_mem_without u _
    · rw [ectx, elook, ejumps, switchedContext, hfollow]
      rfl
  · have hlen : (data.take g.remaining).length = g.remaining := List.length_take_of_le hl.le
    obtain ⟨t, hexec, hans, hpoll, hconn, hbytes, hctb, hpages, hports, hrcm, hdsc, hpend⟩ :=
      dataTaken_of hst h hn h1 h2 hd0 hk (end_of_fits hf hlen.le)
        (placeFrame_overrun_closed (s := b.modLnk Lnk.heard) _ hd hg hl hh hla ho hp) rfl rfl
    refine ⟨t, hexec, hans, hpoll, hconn, ?_, ⟨fun v hv => ?_, (congrArg Ctb.selectQ hctb).trans (modCtx_selectQ ..),
      (congrArg Ctb.stopQ hctb).trans (modCtx_stopQ ..),
      hports, hdsc, hpend⟩, hpages, hrcm, hbytes⟩
    · rw [ctx_of_ctb hctb, ctx_modCtx, if_pos rfl, hlen]
      change { c with seg := _, conds := _, halt := some (c.halt.getD .storeFault), lookahead := _ } = _
      rw [hh, advanced, Nat.sub_self]
      rfl
    · rw [ctx_of_ctb hctb, ctx_modCtx, if_neg hv]

end

end Sys2Proof.SegmentSwitch
end

section
/-! PROOFS. The REQ OUT_DATA of an order: the DAT it is answered with, and the SEG an exhausted segment gives way to. -/

namespace Sys2Proof.OutputRequests

open Sys2Proof.Machine Sys2Proof.Laws Sys2Proof.StepActs Sys2Proof.UnitContexts Sys2Proof.SegmentSteps
  Sys2Proof.OrderRequests Sys2Proof.SegmentSwitch Sys2Proof.Fetching

section
variable {s t : State} {u : UnitAddr} {p : Port} {d x : Descriptor} {g : Segment} {a : Word} {addr : Byte} {mark : Bool}
  {n : Nat} {b : Bool} {o : Option GrantKind}

/-! ### REQ OUT_DATA (R40, R81, R83) -/

/-- A REQ OUT_DATA is never a repeat (R83). -/
theorem repeatAnswer_outData (s : State) (u : UnitAddr) (mark : Bool) : s.repeatAnswer u mark .outData = none := by
  unfold State.repeatAnswer
  cases s.answer u with
  | none => rfl
  | some x =>
    obtain ⟨k, f⟩ := x
    cases mark <;> cases k <;> rfl

theorem serveReq_outData (hs : (s.ctx u).state = .connected) (hd : (s.ctx u).desc = some d) (hk : d.kind = .output) :
    serveReq u .outData s = takeOutData u (ensureSegment u s) := by
  simp [serveReq, hs, hd, hk]

/-- What LNK sends for CTB's answer to a REQ OUT_DATA: a DAT with tries of its own, or STP (R73, R81). -/
theorem serveOrder_outData (hs : (s.ctx u).state = .connected) (hd : (s.ctx u).desc = some d) (hk : d.kind = .output) :
    (∀ bs, takeOutData u (ensureSegment u s) = (t, .dat bs) → serveOrder u .outData n b o s =
      sendIn { reqExchange u .outData n b o (.ack u) with frame := .dat u bs, tries := 1 } t) ∧
    (takeOutData u (ensureSegment u s) = (t, .stp) → serveOrder u .outData n b o s =
      answerSent u .outData n b o (.stp .report u) t) := by
  have hr := serveReq_outData hs hd hk
  refine ⟨fun bs ht => ?_, fun ht => ?_⟩ <;> rw [serveOrder, hr, ht]
  rfl

/-- The exchange of a DAT: its REQ's opener and note of a corrupt frame, a first try of its own (R73). -/
def datExchange (u : UnitAddr) (b : Bool) (o : Option GrantKind) (bs : List Byte) : Exchange :=
  { kind := .dataOut, unit := some u, frame := .dat u bs, tries := 1, corrupt := b, opener := o, sending := true, more := [] }

/-- A REQ OUT_DATA of an OUT order is served on the context begun: with a DAT, or with STP. -/
theorem exec_reqOutData (h : s.hears u) (hn : names addr u) (hd : (s.ctx u).desc = some d) (hk : d.kind = .output) :
    ∃ n b o, heardAs s n b o ∧
      (∀ t bs, takeOutData u ((s.begun u).modLnk Lnk.heard) = (t, .dat bs) →
        exec (.reqOutData addr mark) s = .next (sendIn (datExchange u b o bs) t)) ∧
      ∀ t, takeOutData u ((s.begun u).modLnk Lnk.heard) = (t, .stp) →
        exec (.reqOutData addr mark) s = .next (answerSent u .outData n b o (.stp .report u) t) := by
  have hl : linkFrame (.reqOutData addr mark) = some (.req u mark .outData) :=
    congrArg some (reqFrame_eq hn rfl)
  obtain ⟨n, b, o, ha, he⟩ := hears_exec s hl h (repeatAnswer_outData s u mark)
  have hs : (((s.modLnk Lnk.heard).served u).ctx u).state = .connected := by
    rw [served_modLnk]
    exact served_connected h
  have hd' : (((s.modLnk Lnk.heard).served u).ctx u).desc = some d := by
    rw [served_desc]
    exact hd
  refine ⟨n, b, o, ha, fun t bs ht => ?_, fun t ht => ?_⟩ <;> rw [← ensureSegment_heard hd] at ht <;>
    obtain ⟨hdat, hstp⟩ := serveOrder_outData (t := t) (n := n) (b := b) (o := o) hs hd' hk
  · rw [he, hdat bs ht]
    rfl
  · rw [he, hstp ht]

/-! ### What CTB answers with (R31, R40, R41) -/

theorem takeOutData_of_halted (hh : (s.ctx u).halt ≠ none) : takeOutData u s = (s, .stp) := by
  unfold takeOutData
  split
  · exact if_pos hh
  · rfl

theorem takeOutData_of_none (hg : (s.ctx u).seg = none) : takeOutData u s = (s, .stp) := by
  simp only [takeOutData, hg]

theorem takeOutData_of_bytes (hg : (s.ctx u).seg = some g) (hd : (s.ctx u).desc = some d) (hh : (s.ctx u).halt = none)
    (hr : 0 < g.remaining) : takeOutData u s = (s, .dat (datOf g s)) := by
  simp only [takeOutData, hg, hd, hh, ne_eq, not_true_eq_false, if_false, hr, if_true]

theorem takeOutData_of_exhausted (hg : (s.ctx u).seg = some g) (hd : (s.ctx u).desc = some d) (hh : (s.ctx u).halt = none)
    (hr : g.remaining = 0) :
    takeOutData u s = if d.link = .nextSegment then fetchOutput u s else (overrun u s, .stp) := by
  simp only [takeOutData, hg, hd, hh, hr, ne_eq, not_true_eq_false, if_false, lt_self_iff_false]

/-- The bytes of a DAT are those of its segment, in order (R40). -/
theorem datOf_get (hf : g.fits) : (datOf g s).length = min 16 g.remaining ∧
    ∀ i, i < (datOf g s).length → (datOf g s)[i]? = some (s.byteAt (BitVec.ofNat 15 (g.addr.toNat + i))) := by
  have hlen : (datOf g s).length = min 16 g.remaining := readBytes_length s _ _
  refine ⟨hlen, fun i hi => readBytes_get s _ i g.addr (by rwa [hlen] at hi) ?_⟩
  exact end_of_fits hf (min_le_right _ _)

/-- What LNK sends a DAT with, by what it has heard the REQ in (R71, R73, R74). -/
theorem heardAs_notes (ha : heardAs s n b o) :
    (s.lnk.link = .hold → b = false ∧ o = none) ∧
      (∀ e, s.awaitsReply e → e.kind = .poll → b = false ∧ o = some .poll) ∧
      ∀ e, s.awaitsReply e → e.kind = .request → b = e.corrupt ∧ o = none := by
  have h := congrArg Prod.snd (heardAs_eq ha)
  refine ⟨fun hl => ?_, fun e ⟨hl, he, _⟩ hk => ?_, fun e ⟨hl, he, _⟩ hk => ?_⟩
  · simpa [heardOf, hl] using h
  · simpa [heardOf, hl, he, hk] using h
  · simpa [heardOf, hl, he, hk] using h

theorem sendIn_datExchange (bs : List Byte) {m : State} (hm : m.lnk = s.lnk) :
    sendIn (datExchange u b o bs) (m.modLnk Lnk.heard) = { m with lnk := { s.lnk.heard with
      link := .exchange, exchange := some (datExchange u b o bs) } } := by
  rw [← hm]
  rfl

/-- What STP in answer to a REQ OUT_DATA leaves: its exchange, an empty answer memory entry, and the rest as CTB left it (R83). -/
theorem stpSent (h : s.hears u) (ha : heardAs s n b o) {m : State} (hm : m.lnk = s.lnk.heard) :
    (answerSent u .outData n b o (.stp .report u) m).answer u = none ∧
      sendsTo u (.stp .report u) (answerSent u .outData n b o (.stp .report u) m) ∧
      viaPoll s (answerSent u .outData n b o (.stp .report u) m) ∧
      (answerSent u .outData n b o (.stp .report u) m).lnk.conn = s.lnk.conn :=
  ⟨(answerSent_answer ..).trans (if_pos rfl), ⟨rfl, rfl, rfl, _, rfl, rfl, rfl, rfl, rfl⟩, answerSent_viaPoll h ha,
    (congrArg Lnk.conn hm :)⟩

theorem answerSent_parts (u : UnitAddr) (body : ReqBody) (n : Nat) (b : Bool) (o : Option GrantKind) (f : CtlFrame)
    (m : State) : (answerSent u body n b o f m).ctb = m.ctb ∧ (answerSent u body n b o f m).str = m.str ∧
      (answerSent u body n b o f m).ports = m.ports ∧ (answerSent u body n b o f m).rcm = m.rcm ∧
      (answerSent u body n b o f m).dsc = m.dsc ∧ (answerSent u body n b o f m).pending = m.pending :=
  ⟨rfl, rfl, rfl, rfl, rfl, rfl⟩

/-- Settles O40: with bytes left the answer is a DAT read from the segment, without them or with a halt request it is STP. -/
theorem outputBytesAreReadWhenAskedFor : Obligations.OutputBytesAreReadWhenAskedFor := by
  intro s u d addr mark h hn b c hd hk
  have hd0 : (s.ctx u).desc = some d := (begun_desc s u).symm.trans hd
  obtain ⟨bports, blnk, brcm, bdsc, bpend⟩ := (begun_sameOutside hd0).parts
  obtain ⟨n, o1, o2, ha, hdat, hstp⟩ := exec_reqOutData (mark := mark) h hn hd0 hk
  refine ⟨fun g hg hr hf hh => ?_, fun hx => ?_⟩
  · obtain ⟨hold, poll, request⟩ := heardAs_notes ha
    obtain ⟨hlen, hget⟩ := datOf_get (s := b.modLnk Lnk.heard) hf
    refine ⟨_, _, (hdat _ _ (takeOutData_of_bytes (s := b.modLnk Lnk.heard) hg hd hh hr)).trans
      (congrArg _ (sendIn_datExchange _ blnk)), rfl, rfl, rfl, rfl, rfl, rfl, hold, poll, request, hlen, fun i hi => ?_⟩
    rw [hget i hi, byteAt_modLnk, begun_byteAt hd0]
  · have hstop : takeOutData u (b.modLnk Lnk.heard) = (b.modLnk Lnk.heard, .stp) := by
      rcases hx with hx | hx
      · exact takeOutData_of_halted hx
      · exact takeOutData_of_none hx
    obtain ⟨h1, h2, h3, h4⟩ := stpSent (m := b.modLnk Lnk.heard) h ha (congrArg Lnk.heard blnk)
    obtain ⟨p1, p2, p3, p4, p5, p6⟩ := answerSent_parts u .outData n o1 o2 (.stp .report u) (b.modLnk Lnk.heard)
    exact ⟨_, hstp _ hstop, h1, h2, h3, h4, p1, p2, p3.trans bports, p4.trans brcm, p5.trans bdsc, p6.trans bpend⟩

/-! ### An exhausted segment (R41) -/

/-- The context with the JUMPs its segment fetch has followed (R27). -/
def fetched (u : UnitAddr) (n : Nat) (s : State) : State := s.modCtx u (fun c => { c with jumps := n })

theorem fetched_modLnk (f : Lnk → Lnk) : fetched u n (s.modLnk f) = (fetched u n s).modLnk f := rfl

theorem fetchOutput_of_none (ho : (s.ctx u).owner = some p) (ha : (s.ctx u).descAddr = some a)
    (hf : (fetch (.segment .output) p s (a.toNat + 8)).found = none) : fetchOutput u s =
    (dataFault u .programFault (fetched u (fetch (.segment .output) p s (a.toNat + 8)).jumps s), .stp) := by
  have hn : (s.ctx u).nextDesc = a.toNat + 8 := by simp only [Context.nextDesc, ha]
  simp only [fetchOutput, ho, hn, hf]
  rfl

theorem fetchOutput_of_closed {xa : Word} (ho : (s.ctx u).owner = some p) (ha : (s.ctx u).descAddr = some a)
    (hf : (fetch (.segment .output) p s (a.toNat + 8)).found = some (x, xa))
    (hp : s.pageOpen p (pageOf x.addr) = false) : fetchOutput u s =
    ((dataFault u .storeFault (fetched u (fetch (.segment .output) p s (a.toNat + 8)).jumps s)).modCtx u
      (fun c => { c with lookahead := .absent }), .stp) := by
  have hn : (s.ctx u).nextDesc = a.toNat + 8 := by simp only [Context.nextDesc, ha]
  have hclosed : switchTo u x xa (fetched u (fetch (.segment .output) p s (a.toNat + 8)).jumps s) = _ :=
    switchTo_of_closed xa (becomeCurrent_of_closed fun y hy => by
      obtain rfl : p = y := Option.some.inj (ho.symm.trans (by simpa [fetched] using hy))
      exact hp)
  simp only [fetchOutput, ho, hn, hf]
  rw [fetched] at hclosed
  rw [hclosed]
  rfl

theorem fetchOutput_of_open {xa : Word} (ho : (s.ctx u).owner = some p) (ha : (s.ctx u).descAddr = some a)
    (hf : (fetch (.segment .output) p s (a.toNat + 8)).found = some (x, xa))
    (hp : s.pageOpen p (pageOf x.addr) = true) : fetchOutput u s =
    (switchMade u x xa (fetched u (fetch (.segment .output) p s (a.toNat + 8)).jumps s),
      .dat (datOf { addr := x.addr, remaining := x.count.toNat, page := pageOf x.addr }
        (switchMade u x xa (fetched u (fetch (.segment .output) p s (a.toNat + 8)).jumps s)))) := by
  have hn : (s.ctx u).nextDesc = a.toNat + 8 := by simp only [Context.nextDesc, ha]
  have ho' : ((fetched u (fetch (.segment .output) p s (a.toNat + 8)).jumps s).ctx u).owner = some p := by
    simpa [fetched] using ho
  have hmade := switchTo_made (x := x) (a := xa) ho' hp
  obtain ⟨hseg, -⟩ := switchMade_seg (x := x) (a := xa) ho'
  rw [fetched] at hmade hseg
  simp only [fetchOutput, ho, hn, hf, hmade, if_true, hseg]
  rfl

/-- A REQ OUT_DATA answered with STP, which leaves the state as its order's first segment did but for its context (R41). -/
def outputStops (s : State) (u : UnitAddr) (addr : Byte) (mark : Bool) (x : Context) : Prop :=
  ∃ t, exec (.reqOutData addr mark) s = .next t ∧ (sendsTo u (.stp .report u) t ∧ viaPoll s t ∧ t.lnk.conn = s.lnk.conn) ∧
    t.answer u = none ∧ t.ctb = ((s.begun u).modCtx u (fun _ => x)).ctb ∧ t.str = (s.begun u).str ∧ t.ports = s.ports ∧
    t.rcm = s.rcm ∧ t.dsc = s.dsc ∧ t.pending = s.pending

theorem outputStops_of {f : Context → Context} {y : Context} (h : s.hears u) (hn : names addr u)
    (hd : (s.ctx u).desc = some d) (hk : d.kind = .output)
    (hrun : takeOutData u ((s.begun u).modLnk Lnk.heard) = (((s.begun u).modLnk Lnk.heard).modCtx u f, .stp))
    (hy : f ((s.begun u).ctx u) = y) : outputStops s u addr mark y := by
  obtain ⟨bports, blnk, brcm, bdsc, bpend⟩ := (begun_sameOutside hd).parts
  obtain ⟨n, o1, o2, ha, -, hstp⟩ := exec_reqOutData (mark := mark) h hn hd hk
  have hm : (((s.begun u).modLnk Lnk.heard).modCtx u f).lnk = s.lnk.heard := congrArg Lnk.heard blnk
  obtain ⟨h1, h2, h3, h4⟩ := stpSent (m := ((s.begun u).modLnk Lnk.heard).modCtx u f) h ha hm
  obtain ⟨p1, p2, p3, p4, p5, p6⟩ := answerSent_parts u .outData n o1 o2 (.stp .report u)
    (((s.begun u).modLnk Lnk.heard).modCtx u f)
  refine ⟨_, hstp _ hrun, ⟨h2, h3, h4⟩, h1, p1.trans ?_, p2, p3.trans bports, p4.trans brcm, p5.trans bdsc,
    p6.trans bpend⟩
  rw [← hy]
  rfl

/-- The area of a SEG just fetched lies in its page (R23, R26 check 6). -/
theorem fetched_fits {xa : Word} {k : DescKind} {i : Nat} (hf : (fetch (.segment k) p s i).found = some (x, xa)) :
    Segment.fits { addr := x.addr, remaining := x.count.toNat, page := pageOf x.addr } := by
  obtain ⟨h1, h2⟩ := area_of_seg (seg_of_fetch hf) (areaFits_of_fetch hf)
  simp only [Segment.fits, pageOf]
  omega

/-- Settles O41: no SEG follows, or its fetch or its page check fails, or it is entered and its first bytes go out. -/
theorem anExhaustedOutputSegmentStopsOrSwitches : Obligations.AnExhaustedOutputSegmentStopsOrSwitches := by
  intro s u p d a g addr mark h hn b c ho hd ha hk hg hr hh f sends stops
  have hd0 : (s.ctx u).desc = some d := (begun_desc s u).symm.trans hd
  have hf : fetch (.segment .output) p (b.modLnk Lnk.heard) (a.toNat + 8) = f := fetch_congr rfl _ _ _
  have hrun := takeOutData_of_exhausted (s := b.modLnk Lnk.heard) hg hd hh hr
  refine ⟨fun hlink => ?_, fun hlink hnone => ?_, fun x xa hlink hx hp => ?_, fun x xa hlink hx hp => ?_⟩
  · rw [if_neg hlink, overrun_eq (s := b.modLnk Lnk.heard) hd] at hrun
    exact outputStops_of h hn hd0 hk hrun rfl
  · rw [if_pos hlink, fetchOutput_of_none (s := b.modLnk Lnk.heard) ho ha (by rw [hf, hnone]), dataFault_eq, fetched,
      modCtx_modCtx, hf] at hrun
    refine outputStops_of h hn hd0 hk hrun ?_
    change { c with jumps := _, conds := _, halt := some (c.halt.getD .storeFault) } = _
    rw [hh]
    rfl
  · rw [if_pos hlink, fetchOutput_of_closed (s := b.modLnk Lnk.heard) ho ha (by rw [hf, hx]) hp, dataFault_eq, fetched,
      modCtx_modCtx, modCtx_modCtx, hf] at hrun
    refine outputStops_of h hn hd0 hk hrun ?_
    change { c with jumps := _, conds := _, halt := some (c.halt.getD .storeFault), lookahead := _ } = _
    rw [hh]
    rfl
  · rw [if_pos hlink, fetchOutput_of_open (s := b.modLnk Lnk.heard) ho ha (by rw [hf, hx]) hp, hf] at hrun
    rw [fetched_modLnk, switchMade_modLnk] at hrun
    have hcf : (fetched u f.jumps b).ctx u = { c with jumps := f.jumps } := by simp [fetched, c]
    obtain ⟨n, o1, o2, hheard, hdat, -⟩ := exec_reqOutData (mark := mark) h hn hd0 hk
    obtain ⟨bports, blnk, brcm, bdsc, bpend⟩ := (begun_sameOutside hd0).parts
    obtain ⟨mports, -, -, mlnk, mstore, mdsc, mpend⟩ := switchMade_parts u x xa (fetched u f.jumps b)
    obtain ⟨hlen, hget⟩ := datOf_get (s := (switchMade u x xa (fetched u f.jumps b)).modLnk Lnk.heard) (fetched_fits hx)
    have hctx := switchMade_ctx (s := fetched u f.jumps b) (x := x) (a := xa) (d := d) (p := p) (by rw [hcf]; exact hd)
      (by rw [hcf]; exact ho)
    have hm : ((switchMade u x xa (fetched u f.jumps b)).modLnk Lnk.heard).lnk = s.lnk.heard :=
      congrArg Lnk.heard (mlnk.trans blnk)
    refine ⟨_, _, hdat _ _ hrun, ⟨⟨rfl, rfl, rfl, _, rfl, rfl, rfl, rfl, rfl⟩,
      fun hc => ⟨_, rfl, heardAs_opener h hheard hc⟩, (congrArg Lnk.conn hm :)⟩, ⟨_, rfl, rfl, rfl⟩, hlen, fun i hi => ?_, ?_,
      fun v hv => ?_, ?_, fun q => ?_, mstore.trans (begun_store hd0), mports.trans bports, mdsc.trans bdsc,
      mpend.trans bpend⟩
    · rw [hget i hi, byteAt_modLnk, State.byteAt, mstore]
      exact congrArg some (begun_byteAt hd0 _)
    · have hfollow : d.follow x = { x with kind := .output, code := d.code } := by rw [← hk]; rfl
      rw [hcf, switchedContext, hfollow] at hctx
      exact hctx
    · exact (switchMade_ctx_of_ne (s := fetched u f.jumps b) (d := d) (p := p) (by rw [hcf]; exact hd)
        (by rw [hcf]; exact ho) hv).trans (by simp [fetched, hv])
    · exact milestoneOffered_congr (switchMade_offered (s := fetched u f.jumps b) (x := x) (a := xa) (d := d) (p := p)
        (by rw [hcf]; exact hd) (by rw [hcf]; exact ho)) rfl rfl (by rw [hcf]) rfl
    · exact switchMade_page (s := fetched u f.jumps b) (g := g) (by rw [hcf]; exact hg) q

end

end Sys2Proof.OutputRequests
end

section
/-! PROOFS. A unit's reply to a DAT, and the ending status of an order: its record, or the next order of its chain. -/

namespace Sys2Proof.OrderEndings

open Sys2Proof.Machine Sys2Proof.Laws Sys2Proof.StepActs Sys2Proof.UnitContexts Sys2Proof.LinkTimers
  Sys2Proof.SegmentSteps Sys2Proof.OrderRequests Sys2Proof.SegmentSwitch Sys2Proof.OutputRequests

section
variable {s t : State} {e : Exchange} {u : UnitAddr} {p : Port} {d x : Descriptor} {g : Segment} {a : Word}
  {addr st : Byte} {n : Nat} {b : Bool} {o : Option GrantKind}

/-! ### The reply to a DAT (R40, R73, R81) -/

theorem exec_ack (h : s.awaitsReply e) (hn : names addr u) :
    exec (.ack addr) s = .next (awaitedFrame (.ack u) (s.modLnk Lnk.heard)) := by
  obtain ⟨-, -, -, -, ha⟩ := h
  exact congrArg Host.Outcome.next (receiveFrom_awaited s UnitFrame.ack hn ha)

theorem exec_nak (h : s.awaitsReply e) (hn : names addr u) :
    exec (.nak addr) s = .next (awaitedFrame (.nak u) (s.modLnk Lnk.heard)) := by
  obtain ⟨-, -, -, -, ha⟩ := h
  exact congrArg Host.Outcome.next (receiveFrom_awaited s UnitFrame.nak hn ha)

theorem awaitedFrame_dataOut {f : UnitFrame} (h : s.awaitsReply e) (hk : e.kind = .dataOut) (hu : e.unit = some u) :
    awaitedFrame f (s.modLnk Lnk.heard) = datReply e u f (s.modLnk Lnk.heard) := by
  obtain ⟨hl, he, -, -, -⟩ := h
  simp [awaitedFrame, hl, he, hk, hu]

/-- The segment of a DAT that has been acknowledged (R40). -/
def acknowledged (u : UnitAddr) (g : Segment) (n : Nat) (s : State) : State :=
  (forgets u s).modCtx u (fun c => { c with seg := some (advanced g n) })

theorem advanceSegment_forgets (hg : (s.ctx u).seg = some g) :
    (advanceSegment u n s).setAnswer u none = acknowledged u g n s := by
  have hadv : advanceSegment u n s = s.modCtx u (fun c => { c with seg := some (advanced g n) }) :=
    modCtx_congr s u (by rw [hg]; rfl)
  rw [hadv]
  rfl

theorem datReply_ack {bs : List Byte} (hf : e.frame = .dat u bs) (hg : (s.ctx u).seg = some g) :
    datReply e u (.ack u) s = endExchange e (acknowledged u g bs.length s) := by
  have hlen : e.datLength = bs.length := by rw [Exchange.datLength, hf]
  rw [datReply, if_pos rfl, hlen, advanceSegment_forgets hg]

theorem noting_false (e : Exchange) : e.noting false = e := by
  rw [Exchange.noting, Bool.or_false]

/-- The next try of an exchange whose reply has failed it (R73). -/
theorem tryAgain_heard (e : Exchange) {e' : Exchange} (h : s.awaitsReply e') : tryAgain e (s.modLnk Lnk.heard) =
    { s with lnk := { s.lnk.heard with exchange := some { e with tries := e.tries + 1, sending := true } } } := by
  obtain ⟨hl, -, -, -, -⟩ := h
  simp only [tryAgain, sendIn, State.modLnk, Lnk.heard, ← hl]

/-- Settles O42: ACK advances the segment and ends the exchange as its connection has it, NAK is one more try. -/
theorem anAckAdvancesTheSegmentAndANakResends : Obligations.AnAckAdvancesTheSegmentAndANakResends := by
  intro s e u bs g addr h hk hu hf hn hg moved
  have hack : exec (.ack addr) s = .next (endExchange e (moved.modLnk Lnk.heard)) := by
    rw [exec_ack h hn, awaitedFrame_dataOut h hk hu, datReply_ack (s := s.modLnk Lnk.heard) hf hg]
    rfl
  refine ⟨fun hc => ?_, fun hc ho hs hq => ?_, fun ht => ?_⟩
  · rw [hack, endExchange_of_connection (s := moved.modLnk Lnk.heard) hc]
    rfl
  · rw [hack, endExchange_of_short (s := moved.modLnk Lnk.heard) hc hu (by rw [ho]; nofun)
      (by simpa [moved, forgets] using hs) (by simpa [moved, forgets] using hq),
      toOpened_of_no_connection (s := moved.modLnk Lnk.heard) hc]
    rfl
  · rw [exec_nak h hn, awaitedFrame_dataOut h hk hu, datReply, if_pos rfl, failedTry, noting_false,
      retryOrEnd_again hu ht (.inr (.inr (.inr (.inl hk))))]
    exact congrArg _ (tryAgain_heard e h)

/-! ### REQ STATUS of an order (R42 to R45, R82, R100) -/

theorem exec_reqStatus (h : s.hears u) (hn : names addr u) (hd : (s.ctx u).desc = some d) : ∃ n b o, heardAs s n b o ∧
    exec (.reqStatus addr false st) s = .next ((answerSent u (.status st) n b o (.tak u)
      (takeEnding u (statusOf st) true ((s.served u).modLnk Lnk.heard))).modLnk (fun l => { l with conn := none })) := by
  have hl : linkFrame (.reqStatus addr false st) = some (.req u false (.status st)) :=
    congrArg some (reqFrame_eq hn rfl)
  obtain ⟨n, b, o, ha, he⟩ := hears_exec s hl h (repeatAnswer_unmarked s u _)
  refine ⟨n, b, o, ha, he.trans ?_⟩
  have hserve : serveReq u (.status st) ((s.served u).modLnk Lnk.heard) =
      (takeEnding u (statusOf st) true ((s.served u).modLnk Lnk.heard), .tak) := by
    simp [serveReq, served_connected h, hd]
  rw [served_modLnk, serveOrder, hserve]
  rfl

/-- A LONG connection ends with TAK (R82). -/
theorem takSent (h : s.hears u) (ha : heardAs s n b o) {m : State} (hm : m.lnk = s.lnk.heard) :
    answering .status .status u (.tak u) s ((answerSent u (.status st) n b o (.tak u) m).modLnk
        (fun l => { l with conn := none })) ∧
      viaPoll s ((answerSent u (.status st) n b o (.tak u) m).modLnk (fun l => { l with conn := none })) := by
  obtain ⟨h1, h2, h3, h4, h5, h6, h7, h8⟩ :=
    answerSent_answering (n := n) (b := b) (o := o) (body := .status st) (f := .tak u) hm rfl rfl
  exact ⟨⟨h1, h2, h3, h4, h5, h6, h7, h8⟩, answerSent_viaPoll (m := m) h ha⟩

/-- What is sent after the end of an order does not touch its record. -/
theorem ended_takSent {r : Completion} {m : State} (h : ended u p r s m) :
    ended u p r s ((answerSent u (.status st) n b o (.tak u) m).modLnk (fun l => { l with conn := none })) :=
  ended_of_eq s h rfl

theorem takSent_parts (m : State) :
    ((answerSent u (.status st) n b o (.tak u) m).modLnk (fun l => { l with conn := none })).ctb = m.ctb ∧
      ((answerSent u (.status st) n b o (.tak u) m).modLnk (fun l => { l with conn := none })).str = m.str ∧
      ((answerSent u (.status st) n b o (.tak u) m).modLnk (fun l => { l with conn := none })).ports = m.ports ∧
      ((answerSent u (.status st) n b o (.tak u) m).modLnk (fun l => { l with conn := none })).rcm = m.rcm ∧
      ((answerSent u (.status st) n b o (.tak u) m).modLnk (fun l => { l with conn := none })).dsc = m.dsc ∧
      ((answerSent u (.status st) n b o (.tak u) m).modLnk (fun l => { l with conn := none })).pending = m.pending :=
  ⟨rfl, rfl, rfl, rfl, rfl, rfl⟩

theorem statusOf_eq_done : statusOf st = doneOnly ↔ st.toNat % 32 = 1 := by
  rw [← BitVec.toNat_inj]
  simp [statusOf, doneOnly]

theorem mayChain_iff {c : Context} (hd : c.desc = some d) :
    (({ c with unitStatus := some (statusOf st) } : Context).lengthCheck).mayChain = true ↔
      d.link = .nextOrder ∧ lengthChecked c d = {} ∧ st.toNat % 32 = 1 ∧ c.halt = none := by
  have hcheck : ({ c with unitStatus := some (statusOf st) } : Context).lengthCheck =
      { c with unitStatus := some (statusOf st), conds := lengthChecked c d } :=
    lengthCheck_of_desc (c := { c with unitStatus := some (statusOf st) }) hd
  rw [hcheck]
  generalize lengthChecked c d = x
  simp only [Context.mayChain, hd, Bool.and_eq_true, decide_eq_true_eq, Option.some.injEq, statusOf_eq_done, and_assoc]

theorem mayChain_of_endsChain {c : Context} (hd : c.desc = some d) (h : endsChain c d st) :
    (({ c with unitStatus := some (statusOf st) } : Context).lengthCheck).mayChain = false := by
  rw [Bool.eq_false_iff, ne_eq, mayChain_iff hd]
  rintro ⟨h1, h2, h3, h4⟩
  rcases h with h | h | h | h
  · exact h h1
  · exact h h2
  · exact h h3
  · exact h h4

/-! The record of an order does not depend on whether its context had to be taken up. -/

theorem served_leftOver (s : State) (u : UnitAddr) (d : Descriptor) :
    leftOver ((s.served u).ctx u) d = leftOver (s.ctx u) d := by
  rw [served_ctx]
  rfl

theorem served_closedWith (s : State) (u : UnitAddr) (x : Conds) :
    closedWith ((s.served u).ctx u) x = closedWith (s.ctx u) x := by
  rw [served_ctx]
  rfl

theorem served_lengthChecked (s : State) (u : UnitAddr) (d : Descriptor) :
    lengthChecked ((s.served u).ctx u) d = lengthChecked (s.ctx u) d := by
  rw [lengthChecked, served_leftOver, served_ctx]
  rfl

theorem served_descAddr (s : State) (u : UnitAddr) : ((s.served u).ctx u).descAddr = (s.ctx u).descAddr := by rw [served_ctx]

theorem served_owner (s : State) (u : UnitAddr) : ((s.served u).ctx u).owner = (s.ctx u).owner := by rw [served_ctx]

theorem served_halt (s : State) (u : UnitAddr) : ((s.served u).ctx u).halt = (s.ctx u).halt := by rw [served_ctx]

/-- Settles O43: an ending status that does not continue a chain ends the order of the context served, and TAK is sent. -/
theorem anEndingStatusEndsTheOrderWithItsRecord : Obligations.AnEndingStatusEndsTheOrderWithItsRecord := by
  intro s u p d a addr st h hn hd ha ho hend
  obtain ⟨n, b, o, hheard, he⟩ := exec_reqStatus (st := st) h hn hd
  obtain ⟨-, hlnk, -, -, -⟩ := (served_sameOutside (s := s) (u := u)).parts
  have hm : (takeEnding u (statusOf st) true ((s.served u).modLnk Lnk.heard)).lnk = s.lnk.heard :=
    (takeEnding_lnk ..).trans (congrArg Lnk.heard hlnk)
  obtain ⟨hans, hpoll⟩ := takSent (st := st) h hheard hm
  have hd' : ((s.served u).ctx u).desc = some d := (served_desc s u).trans hd
  have hend' : endsChain ((s.served u).ctx u) d st := by
    rwa [endsChain, served_lengthChecked, served_halt]
  have hended := takeEnding_ended (s := (s.served u).modLnk Lnk.heard) (x := statusOf st) (chains := true) hd'
    ((served_descAddr s u).trans ha) ((served_owner s u).trans ho) (mayChain_of_endsChain hd' hend')
  rw [modLnk_ctx, served_leftOver, served_lengthChecked, served_closedWith, statusOf_eq, ended_modLnk] at hended
  exact ⟨_, he, hans, hpoll, rfl, ended_takSent hended⟩

/-! ### The chain (R10, R33, R45) -/

theorem conds_of_lengthChecked {c : Context} (h : lengthChecked c d = {}) : c.conds = {} := by
  have h1 : (lengthChecked c d).length = false := by rw [h]
  rw [lengthChecked, Bool.or_eq_false_iff] at h1
  have h2 : lengthChecked c d = c.conds := by rw [lengthChecked, h1.1, h1.2, Bool.or_false, ← h1.1]
  rw [← h2, h]

/-- The order of a context as its ending status is taken. -/
def statusTaken (u : UnitAddr) (x : UStatus) (s : State) : State :=
  s.modCtx u (fun c => { c with unitStatus := some x, conds := {} })

theorem takeEnding_of_chain (hd : (s.ctx u).desc = some d) (ha : (s.ctx u).descAddr = some a)
    (ho : (s.ctx u).owner = some p) (hlc : lengthChecked (s.ctx u) d = {})
    (hm : (({ s.ctx u with unitStatus := some (statusOf st) } : Context).lengthCheck).mayChain = true) :
    (∀ x xa, (fetch .order p s (a.toNat + 8)).found = some (x, xa) → takeEnding u (statusOf st) true s =
      continueChain u x xa (fetched u (fetch .order p s (a.toNat + 8)).jumps (statusTaken u (statusOf st) s))) ∧
    ((fetch .order p s (a.toNat + 8)).found = none → takeEnding u (statusOf st) true s = endOrder u (leftOver (s.ctx u) d)
      ((fetched u (fetch .order p s (a.toNat + 8)).jumps (statusTaken u (statusOf st) s)).modCtx u
        (fun c => c.gain .programFault))) := by
  have hl : ({ s.ctx u with unitStatus := some (statusOf st) } : Context).lengthCheck =
      { s.ctx u with unitStatus := some (statusOf st), conds := {} } := by
    rw [lengthCheck_of_desc (c := { s.ctx u with unitStatus := some (statusOf st) }) hd, ← hlc]
    rfl
  rw [hl] at hm
  have hst : s.modCtx u (fun c => ({ c with unitStatus := some (statusOf st) } : Context).lengthCheck) =
      statusTaken u (statusOf st) s := modCtx_congr s u hl
  have hc : (statusTaken u (statusOf st) s).ctx u = { s.ctx u with unitStatus := some (statusOf st), conds := {} } := by
    simp [statusTaken]
  have hn : ((statusTaken u (statusOf st) s).ctx u).nextDesc = a.toNat + 8 := by rw [hc]; simp only [Context.nextDesc, ha]
  have hf : fetch .order p (statusTaken u (statusOf st) s) (a.toNat + 8) = fetch .order p s (a.toNat + 8) :=
    fetch_congr rfl _ _ _
  have hres : ((statusTaken u (statusOf st) s).ctx u).endingResidual = leftOver (s.ctx u) d := by
    rw [endingResidual_eq (d := d) (by rw [hc]; exact hd), hc]
    rfl
  have hm' : ((statusTaken u (statusOf st) s).ctx u).mayChain = true := by rw [hc]; exact hm
  have ho' : ((statusTaken u (statusOf st) s).ctx u).owner = some p := by rw [hc]; exact ho
  refine ⟨fun x xa hx => ?_, fun hx => ?_⟩ <;> rw [takeEnding, hst] <;>
    simp only [hm', Bool.and_self, if_true, ho', hn, hf, hx, hres]
  · rfl
  · rfl

/-- The context that continues its chain, its MILESTONE not yet offered (R10, R45 step 4). -/
def chained (u : UnitAddr) (x : Descriptor) (a : Word) (s : State) : State :=
  ((ceaseSegment u s).modCtx u (fun c => { c with
    state := .queued, desc := some x, descAddr := some a, lookahead := .absent, unitStatus := none,
    silence := .stopped })).modSelectQ (fun q => q ++ [u])

theorem continueChain_eq : continueChain u x a s = announced x.milestone u a (chained u x a s) := rfl

theorem chained_ctx : (chained u x a s).ctx u = { s.ctx u with
    state := .queued, desc := some x, descAddr := some a, seg := none, lookahead := .absent, unitStatus := none,
    silence := .stopped } := by
  simp [chained]

theorem chained_ctx_of_ne {v : UnitAddr} (hv : v ≠ u) : (chained u x a s).ctx v = s.ctx v := by
  simp [chained, hv]

theorem chained_parts (u : UnitAddr) (x : Descriptor) (a : Word) (s : State) :
    (chained u x a s).ports = s.ports ∧ (chained u x a s).ctb.selectQ = s.ctb.selectQ ++ [u] ∧
      (chained u x a s).ctb.stopQ = s.ctb.stopQ ∧ (chained u x a s).lnk = s.lnk ∧ (chained u x a s).rcm = s.rcm ∧
      (chained u x a s).str.store = s.str.store ∧ (chained u x a s).dsc = s.dsc ∧
      (chained u x a s).pending = s.pending := by
  have hrcm : (ceaseSegment u s).rcm = s.rcm := by
    unfold ceaseSegment State.lowerSeg
    cases (s.ctx u).seg <;> rfl
  exact ⟨by simp [chained], by simp [chained], by simp [chained], by simp [chained], hrcm, by simp [chained],
    by simp [chained], by simp [chained]⟩

theorem chained_page (q : PageNo) : (chained u x a s).page q =
    { s.page q with uses := (s.page q).uses - if (s.ctx u).segIn q then 1 else 0 } := by
  rw [chained, modSelectQ_page, modCtx_page, ceaseSegment_page]

/-- What a chain that continues leaves (R10, R32, R33). -/
theorem continueChain_spec (ho : (s.ctx u).owner = some p) :
    (continueChain u x a s).ctb.selectQ = s.ctb.selectQ ++ [u] ∧ (continueChain u x a s).ctb.stopQ = s.ctb.stopQ ∧
      (continueChain u x a s).ctx u = { s.ctx u with
        state := .queued, desc := some x, descAddr := some a, seg := none, lookahead := .absent, unitStatus := none,
        silence := .stopped, milestoneMissed := ((continueChain u x a s).ctx u).milestoneMissed } ∧
      (∀ v, v ≠ u → (continueChain u x a s).ctx v = s.ctx v) ∧
      milestoneOffered x.milestone u p a s (continueChain u x a s) ∧
      (∀ q, (continueChain u x a s).page q =
        { s.page q with uses := (s.page q).uses - if (s.ctx u).segIn q then 1 else 0 }) ∧
      (continueChain u x a s).ports = s.ports ∧ (continueChain u x a s).dsc = s.dsc ∧
      (continueChain u x a s).str.store = s.str.store ∧ (continueChain u x a s).pending = s.pending := by
  rw [continueChain_eq]
  have ho' : ((chained u x a s).ctx u).owner = some p := by rw [chained_ctx]; exact ho
  obtain ⟨a1, a2, a3, -, a5, a6, a7⟩ := announced_parts x.milestone u a (chained u x a s)
  obtain ⟨c1, c2, c3, -, c5, c6, c7, c8⟩ := chained_parts u x a s
  have hctx := announced_ctx x.milestone a ho'
  rw [chained_ctx] at hctx
  refine ⟨a2.trans c2, a3.trans c3, hctx, fun v hv => ?_, ?_, fun q => ?_, a1.trans c1, a6.trans c7,
    (congrArg Str.store a5).trans c6, a7.trans c8⟩
  · rw [announced_ctx_of_ne _ _ ho' hv, chained_ctx_of_ne hv]
  · exact milestoneOffered_congr (announced_offered x.milestone a ho') c5.symm rfl (by rw [chained_ctx]) rfl
  · rw [State.page, a5]
    exact chained_page q

/-- The state of a context whose chain's next descriptor has been fetched, its ending status taken (R45). -/
def chainFetched (s : State) (u : UnitAddr) (st : Byte) (n : Nat) : State :=
  fetched u n (statusTaken u (statusOf st) (s.served u))

theorem chainFetched_ctx (hc : (s.ctx u).conds = {}) : (chainFetched s u st n).ctx u =
    { (s.served u).ctx u with unitStatus := some (statusOf st), jumps := n } := by
  have h : ((s.served u).ctx u).conds = {} := by rw [served_ctx]; exact hc
  rw [chainFetched, fetched, statusTaken, modCtx_modCtx, ctx_modCtx, if_pos rfl, ← h]

theorem chainFetched_ctx_of_ne {v : UnitAddr} (hv : v ≠ u) : (chainFetched s u st n).ctx v = s.ctx v := by
  rw [chainFetched, fetched, statusTaken, modCtx_modCtx, ctx_modCtx, if_neg hv, served_ctx_of_ne hv]

theorem served_selectQ (s : State) (u : UnitAddr) : (s.served u).ctb.selectQ = s.ctb.selectQ := by
  rw [served_eq]
  by_cases h : (s.ctx u).state = .disconnected
  · rw [if_pos h]
    rfl
  · rw [if_neg h]

theorem chainFetched_sameOutside : sameOutside s (chainFetched s u st n) :=
  served_sameOutside.trans (t := s.served u) rfl

theorem chainFetched_str : (chainFetched s u st n).str = s.str := served_str s u

theorem chainFetched_heard (s : State) (u : UnitAddr) (st : Byte) (n : Nat) :
    fetched u n (statusTaken u (statusOf st) ((s.served u).modLnk Lnk.heard)) =
      (chainFetched s u st n).modLnk Lnk.heard := rfl

/-- The record of a chain's end: no condition but PROGRAM_FAULT (R28, R45). -/
theorem faultedChain_ended (ho : (s.ctx u).owner = some p) (ha : (s.ctx u).descAddr = some a) (hc : (s.ctx u).conds = {}) :
    ended u p
      { unit := u, owner := p, lastDesc := a, resume := a + 8, residual := leftOver (s.ctx u) d,
        conds := closedWith (s.ctx u) { programFault := true }, status := some (BitVec.ofNat 5 st.toNat) } (s.served u)
      (endOrder u (leftOver (s.ctx u) d)
        (((chainFetched s u st n).modLnk Lnk.heard).modCtx u (fun c => c.gain .programFault))) := by
  have hctx := chainFetched_ctx (st := st) (n := n) hc
  have hr := endOrder_ended (((chainFetched s u st n).modLnk Lnk.heard).modCtx u (fun c => c.gain .programFault)) u p
    (leftOver (s.ctx u) d) (by rw [ctx_modCtx, if_pos rfl, modLnk_ctx, hctx]; exact (served_owner s u).trans ho)
  have hrec : (((((chainFetched s u st n).modLnk Lnk.heard).modCtx u (fun c => c.gain .programFault)).ctx u).compose u p
      (leftOver (s.ctx u) d)) =
      { unit := u, owner := p, lastDesc := a, resume := a + 8, residual := leftOver (s.ctx u) d,
        conds := closedWith (s.ctx u) { programFault := true }, status := some (BitVec.ofNat 5 st.toNat) } := by
    rw [ctx_modCtx, if_pos rfl, modLnk_ctx, hctx, served_ctx]
    simp [Context.compose, Context.gain, Conds.add, ha, hc, finalConds_eq, closedWith, statusOf_eq]
  rw [hrec] at hr
  refine ended_of hr rfl (fun v hv => ?_) ?_ rfl rfl rfl (fun q => rfl) rfl rfl rfl
  · simp [chainFetched, fetched, statusTaken, hv]
  · rw [ctx_modCtx, if_pos rfl, modLnk_ctx, hctx]
    rfl

/-- Settles O44: the chain's next descriptor is fetched; found it queues the context again, not found it ends the order. -/
theorem aChainContinuesToTheNextOrder : Obligations.AChainContinuesToTheNextOrder := by
  intro s u p d a addr st h hn hd hlink ha hlc hh ho hst b f
  obtain ⟨n, o1, o2, hheard, he⟩ := exec_reqStatus (st := st) h hn hd
  obtain ⟨sports, slnk, srcm, sdsc, spend⟩ := (served_sameOutside (s := s) (u := u)).parts
  have hm : (takeEnding u (statusOf st) true ((s.served u).modLnk Lnk.heard)).lnk = s.lnk.heard :=
    (takeEnding_lnk ..).trans (congrArg Lnk.heard slnk)
  obtain ⟨hans, hpoll⟩ := takSent (st := st) h hheard hm
  have hconds := conds_of_lengthChecked hlc
  have hd' : ((s.served u).ctx u).desc = some d := (served_desc s u).trans hd
  have hf : fetch .order p ((s.served u).modLnk Lnk.heard) (a.toNat + 8) = f := fetch_congr (served_str s u) _ _ _
  obtain ⟨hfound, hnone⟩ := takeEnding_of_chain (s := (s.served u).modLnk Lnk.heard) (st := st) hd'
    ((served_descAddr s u).trans ha) ((served_owner s u).trans ho) ((served_lengthChecked s u d).trans hlc)
    ((mayChain_iff hd').mpr ⟨hlink, (served_lengthChecked s u d).trans hlc, hst, (served_halt s u).trans hh⟩)
  rw [hf, modLnk_ctx, served_leftOver, chainFetched_heard] at hnone
  rw [hf, chainFetched_heard] at hfound
  refine ⟨fun x xa hx => ?_, fun hx => ⟨_, he, hans, hpoll, rfl, ?_⟩⟩
  · obtain ⟨h1, h2, h3, h4, h5, h6, h7, h8, h9, h10⟩ := continueChain_spec (x := x) (a := xa) (p := p)
      (s := (chainFetched s u st f.jumps).modLnk Lnk.heard)
      (by rw [modLnk_ctx, chainFetched_ctx hconds]; exact (served_owner s u).trans ho)
    rw [hfound x xa hx] at he hans hpoll
    rw [modLnk_ctx, chainFetched_ctx hconds] at h3
    obtain ⟨y1, -, y3, y4, y5⟩ := (chainFetched_sameOutside (s := s) (u := u) (st := st) (n := f.jumps)).parts
    generalize continueChain u x xa ((chainFetched s u st f.jumps).modLnk Lnk.heard) = m at *
    obtain ⟨t1, t2, t3, t4, t5, t6⟩ := takSent_parts (u := u) (st := st) (n := n) (b := o1) (o := o2) m
    refine ⟨_, he, hans, hpoll, rfl, ?_, ?_, ?_, fun v hv => ?_, ?_, fun q => ?_, ?_, ?_, ?_, ?_⟩
    · exact (congrArg Ctb.selectQ t1).trans (h1.trans (congrArg (· ++ [u]) (served_selectQ s u)))
    · exact (congrArg Ctb.stopQ t1).trans h2
    · rw [ctx_of_ctb t1]
      exact h3
    · rw [ctx_of_ctb t1, h4 v hv, modLnk_ctx, chainFetched_ctx_of_ne hv]
    · refine milestoneOffered_congr h5 y3.symm t4 ?_ (by rw [ctx_of_ctb t1])
      rw [modLnk_ctx, chainFetched_ctx hconds, served_ctx]
    · have hseg : ((chainFetched s u st f.jumps).ctx u).segIn q = (s.ctx u).segIn q := by
        rw [chainFetched_ctx hconds, served_ctx]
        rfl
      have hpage : (chainFetched s u st f.jumps).page q = s.page q := by rw [State.page, chainFetched_str]; rfl
      have hq := h6 q
      rw [modLnk_ctx, hseg, modLnk_page, hpage] at hq
      rw [State.page, t2]
      exact hq
    · exact t3.trans (h7.trans y1)
    · exact t5.trans (h8.trans y4)
    · exact (congrArg Str.store t2).trans (h9.trans (congrArg Str.store (chainFetched_str (st := st) (n := f.jumps))))
    · exact t6.trans (h10.trans y5)
  · rw [hnone hx]
    exact ended_takSent (faultedChain_ended ho ha hconds)

end

end Sys2Proof.OrderEndings
end

section
/-! PROOFS. Exchanges that fail, and frames of the wrong kind or from the wrong address: the order ends with its condition, and STP
in the abandon form is sent. -/

namespace Sys2Proof.FailedExchanges

open Sys2Proof.Machine Sys2Proof.Laws Sys2Proof.StepActs Sys2Proof.UnitContexts Sys2Proof.LinkTimers
  Sys2Proof.SegmentSteps Sys2Proof.OrderRequests Sys2Proof.SegmentSwitch Sys2Proof.OutputRequests Sys2Proof.OrderEndings

section
variable {s t : State} {c : Instr} {e : Exchange} {u : UnitAddr} {p : Port} {d : Descriptor} {a : Word} {f : UnitFrame}
  {addr : Byte} {n : Nat} {b : Bool} {o : Option GrantKind}

/-! ### The end of an order by a failed exchange (R73, R83, R102) -/

/-- A context holds an order of this owner, its current descriptor at this address. -/
def holdsOrder (s : State) (u : UnitAddr) (p : Port) (a : Word) : Prop :=
  (s.ctx u).owner = some p ∧ (s.ctx u).descAddr = some a ∧ (s.ctx u).inProgress = true

/-- The record of an order that ends without its ending status, having gained conditions `x` (R102). -/
def failureRecord (u : UnitAddr) (p : Port) (a : Word) (s : State) (x : Conds) : Completion :=
  { unit := u, owner := p, lastDesc := a, resume := a + 8, residual := (s.ctx u).residual,
    conds := closedWith (s.ctx u) x, status := none }

/-- An exchange that fails, whatever LNK has heard: its order ends, and STP in the abandon form goes out. -/
theorem failExchange_spec (k : Lnk → Lnk) (x : Cond) (entry : Option Answer) (hu : e.unit = some u)
    (h : holdsOrder s u p a) : abandons u entry (failExchange e u x entry (s.modLnk k)) ∧
      ended u p (failureRecord u p a s ((s.ctx u).conds.add x)) s (failExchange e u x entry (s.modLnk k)) := by
  obtain ⟨ho, ha, hp⟩ := h
  exact ⟨failExchange_abandons _ e u x entry hu,
    (ended_modLnk s u p _ k _).mp (failExchange_ended (s.modLnk k) e u p a x entry ho hp ha)⟩

/-- A row that runs so ends the order with condition `x`. -/
theorem fails_of {r : Host.Outcome State Fault Refusal} {k : Lnk → Lnk} (x : Cond) {entry : Option Answer} {y : Conds}
    (hu : e.unit = some u) (h : holdsOrder s u p a) (hrun : r = .next (failExchange e u x entry (s.modLnk k)))
    (hy : (s.ctx u).conds.add x = y) : ∃ t, r = .next t ∧ abandons u entry t ∧
      ended u p (failureRecord u p a s y) s t := by
  obtain ⟨h1, h2⟩ := failExchange_spec k x entry hu h
  rw [hy] at h2
  exact ⟨_, hrun, h1, h2⟩

/-! ### Tries that fail (R73, R74) -/

/-- A frame that LNK waits for is taken whole. -/
theorem exec_awaited (hl : linkFrame c = some f) (h : s.awaits = true) :
    exec c s = .next (awaitedFrame f (s.modLnk Lnk.heard)) := by
  rw [exec_linkFrame s hl, receiveFrame_awaited s f h]

theorem awaitedFrame_recall (h : s.awaitsReply e) (hk : e.kind = .recall) (hu : e.unit = some u) :
    awaitedFrame f (s.modLnk Lnk.heard) = recallReply e u f (s.modLnk Lnk.heard) := by
  obtain ⟨hl, he, -, -, -⟩ := h
  simp [awaitedFrame, hl, he, hk, hu]

theorem awaitedFrame_request (h : s.awaitsReply e) (hk : e.kind = .request) (hu : e.unit = some u) :
    awaitedFrame f (s.modLnk Lnk.heard) = longFrame u e.tries e.corrupt f (s.modLnk Lnk.heard) := by
  obtain ⟨hl, he, -, -, -⟩ := h
  simp [awaitedFrame, hl, he, hk, hu]

theorem awaitedFrame_hold (hl : s.lnk.link = .hold) (hc : s.lnk.conn = some u) :
    awaitedFrame f (s.modLnk Lnk.heard) = longFrame u 0 false f (s.modLnk Lnk.heard) := by
  simp [awaitedFrame, hl, hc]

theorem exec_corruptFrame (h : s.awaitsReply e) :
    exec .corruptFrame s = .next (awaitedFrame .corrupt (s.modLnk Lnk.heard)) := by
  obtain ⟨-, -, -, -, ha⟩ := h
  exact exec_awaited rfl ha

/-- A corrupt reply to SEL, RCL or DAT is a failed try, and stays noted (R70, R73). -/
theorem awaitedFrame_corrupt (h : s.awaitsReply e) (hu : e.unit = some u)
    (hk : e.kind = .selection ∨ e.kind = .haltSelection ∨ e.kind = .recall ∨ e.kind = .dataOut) :
    awaitedFrame .corrupt (s.modLnk Lnk.heard) = retryOrEnd (e.noting true) (s.modLnk Lnk.heard) := by
  rcases hk with hk | hk | hk | hk
  · rw [awaitedFrame_selection h hk hu]
    rfl
  · rw [awaitedFrame_haltSelection h hk hu]
    rfl
  · rw [awaitedFrame_recall h hk hu]
    rfl
  · rw [awaitedFrame_dataOut h hk hu]
    rfl

/-- LNK when no reply has come in time (R72). -/
def unanswered (l : Lnk) : Lnk := { l with replyTimer := .stopped }

/-- LNK once a try has failed by this row. -/
def afterTry (c : Instr) : Lnk → Lnk := if c = .replyTimerExpiry then unanswered else Lnk.heard

/-- A failed try, by any of its rows: what it notes, and what LNK has heard. -/
theorem exec_failsTry (h : failsTry c e s) (hu : e.unit = some u)
    (hk : e.kind = .selection ∨ e.kind = .haltSelection ∨ e.kind = .recall ∨ e.kind = .dataOut) :
    exec c s = .next (retryOrEnd (e.noting (decide (c = .corruptFrame)))
      (s.modLnk (afterTry c))) := by
  rcases h with ⟨rfl, he, ht⟩ | ⟨h, rfl | ⟨v, hv, addr, hkd, rfl, hn⟩⟩
  · rw [exec_replyTimerExpiry he ht, afterTry, if_pos rfl, decide_eq_false nofun, noting_false]
    rfl
  · rw [exec_corruptFrame h, awaitedFrame_corrupt h hu hk, afterTry, if_neg nofun]
    rfl
  · obtain rfl : u = v := Option.some.inj (hu.symm.trans hv)
    rw [exec_nak h hn, awaitedFrame_dataOut h hkd hu, afterTry, if_neg nofun, decide_eq_false nofun, datReply, if_pos rfl]
    rfl

theorem retryOrEnd_selection (hk : e.kind = .selection ∨ e.kind = .haltSelection) (hu : e.unit = some u)
    (ht : e.tries = 3) : retryOrEnd e s =
      if e.corrupt then failExchange e u .linkFault (abandonAnswer u none) s else toOpened (failOrder u .noUnit s) := by
  unfold retryOrEnd
  rcases hk with hk | hk <;> simp [hk, hu, ht, Config.maxTries]

theorem retryOrEnd_dataOut (hk : e.kind = .dataOut) (hu : e.unit = some u) (ht : e.tries = 3) :
    retryOrEnd e s = failExchange e u .linkFault none s := by
  unfold retryOrEnd
  simp [hk, hu, ht, Config.maxTries]

theorem retryOrEnd_request (hk : e.kind = .request) (hu : e.unit = some u) (ht : e.tries = 2) : retryOrEnd e s =
    failExchange { e with tries := 3 } u .linkFault (abandonAnswer u none) s := by
  unfold retryOrEnd
  simp [hk, hu, ht, Config.maxTries]

/-- Three receptions of a REQ that fail, by either row (R74). -/
theorem exec_failsRequest (h : failsTry c e s) (hu : e.unit = some u) (hk : e.kind = .request) (ht : e.tries = 2) :
    ∃ (k : Lnk → Lnk) (e' : Exchange), e'.unit = some u ∧
      exec c s = .next (failExchange e' u .linkFault (abandonAnswer u none) (s.modLnk k)) := by
  rcases h with ⟨rfl, he, hr⟩ | ⟨h, rfl | ⟨v, -, addr, hkd, -⟩⟩
  · refine ⟨unanswered, { e with tries := 3 }, hu, ?_⟩
    rw [exec_replyTimerExpiry he hr, retryOrEnd_request hk hu ht]
    rfl
  · refine ⟨Lnk.heard, { requestExchange u (.nak u) (e.tries + 1) e.corrupt with corrupt := true }, rfl, ?_⟩
    rw [exec_corruptFrame h, awaitedFrame_request h hk hu, longFrame, if_neg (by simp [ht, Config.maxTries])]
  · rw [hk] at hkd
    cases hkd

/-! ### Frames of the wrong kind or from the wrong address (R75, R76, R79, R81) -/

theorem answerTo_stp (u : UnitAddr) (body : ReqBody) :
    answerTo body (.stp .abandon u) = keptAnswer body (.stp .abandon u) := by
  cases body <;> rfl

/-- The answer memory entry a failure leaves is that of the unit's own REQ, or STATUS (R83, log 9). -/
theorem abandonAnswer_reqFrom (u : UnitAddr) (f : UnitFrame) : abandonAnswer u (reqFrom u f) = failureEntry u f := by
  cases f with
  | req v m body =>
    by_cases h : v = u
    · simp only [reqFrom, failureEntry, h, if_true, abandonAnswer, answerTo_stp]
    · simp only [reqFrom, failureEntry, h, if_false, abandonAnswer]
  | rsp v st => rfl
  | ack v => rfl
  | nak v => rfl
  | corrupt => rfl

/-- Any frame but its RSP fails a selection (R75, R76). -/
theorem selection_wrong (hf : f ≠ .corrupt) (hr : ∀ st, f ≠ .rsp u st) :
    selectionReply e u f s = failExchange e u .protocol (failureEntry u f) s ∧
      haltSelectionReply e u f s = failExchange e u .protocol (failureEntry u f) s := by
  rw [← abandonAnswer_reqFrom]
  cases f with
  | corrupt => exact absurd rfl hf
  | rsp v st =>
    have hv : v ≠ u := fun h => hr st (by rw [h])
    simp only [selectionReply, haltSelectionReply, if_neg hv, and_self]
  | req v m body => exact ⟨rfl, rfl⟩
  | ack v => exact ⟨rfl, rfl⟩
  | nak v => exact ⟨rfl, rfl⟩

/-- A wrong frame that is no stray REQ of a LONG connection has PROTOCOL and nothing more (R79, R81, log 33). -/
theorem wrongFrame_of_known {entry : Option Answer}
    (h : s.lnk.conn = none ∨ ∀ v m body, f = .req v m body → v = u ∨ s.entry v ≠ none) :
    wrongFrame e u f entry s = failExchange e u .protocol entry s := by
  cases f with
  | req v m body =>
    cases hc : s.lnk.conn with
    | none => simp only [wrongFrame, hc]
    | some x =>
      rcases h with h | h
      · rw [hc] at h
        cases h
      · have hv : ¬ (v ≠ u ∧ s.entry v = none) := fun ⟨h1, h2⟩ => (h v m body rfl).elim h1 (fun h3 => h3 h2)
        simp only [wrongFrame, hc, if_neg hv]
  | rsp v st => rfl
  | ack v => rfl
  | nak v => rfl
  | corrupt => rfl

theorem datReply_wrong (hf : f ≠ .corrupt) (hack : f ≠ .ack u) (hnak : f ≠ .nak u) :
    datReply e u f s = wrongFrame e u f none s := by
  cases f with
  | corrupt => exact absurd rfl hf
  | ack v => exact if_neg fun h => hack (by rw [h])
  | nak v => exact if_neg fun h => hnak (by rw [h])
  | rsp v st => rfl
  | req v m body => rfl

/-- A frame of a LONG connection that is no REQ of its unit (R74, R79). -/
theorem longFrame_wrong (hf : f ≠ .corrupt) (hr : ∀ v m body, f = .req v m body → v ≠ u) :
    longFrame u n b f s = wrongFrame (requestExchange u (.nak u) (n + 1) b) u f (abandonAnswer u none) s := by
  cases f with
  | corrupt => exact absurd rfl hf
  | req v m body => exact if_neg (hr v m body rfl)
  | rsp v st => rfl
  | ack v => rfl
  | nak v => rfl

/-- A frame that a LONG connection waits for, in HOLD or after NAK (R74, R79). -/
theorem exec_long (hl : linkFrame c = some f) (h : s.long u) :
    ∃ n b, exec c s = .next (longFrame u n b f (s.modLnk Lnk.heard)) := by
  rcases h with ⟨hlink, hc, ha, -⟩ | ⟨-, -, e, -, he, hk, hu⟩
  · refine ⟨0, false, ?_⟩
    rw [exec_awaited hl ha, awaitedFrame_hold hlink hc]
  · obtain ⟨-, -, -, -, ha⟩ := id he
    refine ⟨e.tries, e.corrupt, ?_⟩
    rw [exec_awaited hl ha, awaitedFrame_request he hk hu]

/-- A data REQ of the wrong kind, its order's first segment made current all the same (R84, R97). -/
theorem exec_wrongKind {body : ReqBody} (hl : linkFrame c = some (.req u false body)) (h : s.hears u)
    (hd : (s.ctx u).desc = some d)
    (hserve : serveReq u body ((s.modLnk Lnk.heard).served u) =
      (ensureSegment u ((s.modLnk Lnk.heard).served u), .wrongKind)) : ∃ e', e'.unit = some u ∧ exec c s =
      .next (failExchange e' u .protocol (keptAnswer body (.stp .abandon u)) ((s.begun u).modLnk Lnk.heard)) := by
  obtain ⟨n, b, o, -, he⟩ := hears_exec s hl h (repeatAnswer_unmarked s u _)
  refine ⟨reqExchange u body n b o (.ack u), rfl, he.trans ?_⟩
  rw [serveOrder, hserve, ensureSegment_heard hd, answerTo_stp]

/-- The order that a data REQ of the wrong kind ends (R84). -/
theorem begun_holdsOrder (h : s.hears u) (hd : (s.ctx u).desc = some d) (ha : (s.ctx u).descAddr = some a)
    (ho : (s.ctx u).owner = some p) : holdsOrder (s.begun u) u p a := by
  refine ⟨?_, ?_, ?_⟩
  · rw [begun_ctx hd]
    exact (served_owner s u).trans ho
  · rw [begun_ctx hd]
    exact (served_descAddr s u).trans ha
  · simp [Context.inProgress, begun_connected h hd]

/-- Settles O45: a last try that fails, a wrong reply, a wrong frame of a LONG connection and a data REQ of the wrong kind all end in
one failed exchange. -/
theorem aFailedExchangeEndsTheOrderWithItsCondition : Obligations.AFailedExchangeEndsTheOrderWithItsCondition := by
  unfold Obligations.AFailedExchangeEndsTheOrderWithItsCondition
  intro endedBy order statusStp
  refine ⟨fun c s e u p a h hu ho => ⟨fun hk ht => ⟨fun hc hcorr => ?_, fun hcorr => ?_⟩, fun hk ht => ?_, fun hk ht => ?_⟩,
    fun c f s e u p a hl hf h hu ho => ⟨fun hk hr => ?_, fun hk hack hnak hx => ?_⟩,
    fun c f s u p a hl hf h ho hr => ?_, fun s u p d a addr h hn hd ha ho => ⟨fun data h1 h2 hk => ?_, fun hk => ?_⟩⟩
  · subst hc
    obtain ⟨ho, ha, hp⟩ := ho
    refine ⟨toOpened (failOrder u .noUnit (s.modLnk unanswered)), (exec_failsTry h hu (hk.imp_right .inl)).trans ?_, ?_,
      ended_of_eq s (failOrder_ended (s.modLnk unanswered) u p a .noUnit ho hp ha) rfl⟩
    · rw [decide_eq_false nofun, noting_false, afterTry, if_pos rfl, retryOrEnd_selection hk hu ht, hcorr]
      rfl
    · simp [toOpened, unanswered]
  · have hnoted : (e.noting (decide (c = .corruptFrame))).corrupt = true := by
      rcases hcorr with hc | hc <;> simp [Exchange.noting, hc]
    refine fails_of (k := afterTry c) .linkFault (e := e.noting (decide (c = .corruptFrame))) hu ho
      ((exec_failsTry h hu (hk.imp_right .inl)).trans ?_) rfl
    rw [retryOrEnd_selection (e := e.noting (decide (c = .corruptFrame))) hk hu ht, if_pos hnoted]
    rfl
  · refine fails_of (k := afterTry c) .linkFault (e := e.noting (decide (c = .corruptFrame))) hu ho
      ((exec_failsTry h hu (.inr (.inr (.inr hk)))).trans ?_) rfl
    rw [retryOrEnd_dataOut (e := e.noting (decide (c = .corruptFrame))) hk hu ht]
  · obtain ⟨k, e', hu', hrun⟩ := exec_failsRequest h hu hk ht
    exact fails_of .linkFault hu' ho hrun rfl
  · obtain ⟨-, -, -, -, haw⟩ := id h
    obtain ⟨hsel, hhalt⟩ := selection_wrong (e := e) (s := s.modLnk Lnk.heard) hf hr
    refine fails_of (k := Lnk.heard) .protocol hu ho ((exec_awaited hl haw).trans ?_) rfl
    rcases hk with hk | hk
    · rw [awaitedFrame_selection h hk hu, hsel]
    · rw [awaitedFrame_haltSelection h hk hu, hhalt]
  · obtain ⟨-, -, -, -, haw⟩ := id h
    refine fails_of (k := Lnk.heard) .protocol hu ho ((exec_awaited hl haw).trans ?_) rfl
    rw [awaitedFrame_dataOut h hk hu, datReply_wrong hf hack hnak, wrongFrame_of_known (s := s.modLnk Lnk.heard) hx]
  · obtain ⟨n, b, hrun⟩ := exec_long hl h
    refine fails_of (k := Lnk.heard) .protocol (e := requestExchange u (.nak u) (n + 1) b) rfl ho (hrun.trans ?_) rfl
    rw [longFrame_wrong hf (fun v m body hv => (hr v m body hv).1),
      wrongFrame_of_known (s := s.modLnk Lnk.heard) (.inr fun v m body hv => .inr (hr v m body hv).2)]
    rfl
  · obtain ⟨e', hu', hrun⟩ := exec_wrongKind (c := .reqInData addr false data) (body := .inData data)
      (congrArg some (reqFrame_eq hn (bodyWellFormed_inData h1 h2))) h hd (by
        simp [serveReq, served_modLnk, served_connected h, hd, hk])
    exact fails_of .protocol hu' (begun_holdsOrder h hd ha ho) hrun rfl
  · obtain ⟨e', hu', hrun⟩ := exec_wrongKind (c := .reqOutData addr false) (body := .outData)
      (congrArg some (reqFrame_eq hn rfl)) h hd (by
        simp [serveReq, served_modLnk, served_connected h, hd, hk])
    exact fails_of .protocol hu' (begun_holdsOrder h hd ha ho) hrun rfl

end

end Sys2Proof.FailedExchanges
end

section
/-! PROOFS. Repeats answered from the answer memory, and corrupt frames. -/

namespace Sys2Proof.RepeatsAndNaks

open Sys2Proof.Machine Sys2Proof.Laws Sys2Proof.StepActs Sys2Proof.UnitContexts Sys2Proof.LinkTimers
  Sys2Proof.SegmentSteps Sys2Proof.OrderRequests Sys2Proof.OutputRequests Sys2Proof.OrderEndings Sys2Proof.FailedExchanges

section
variable {s : State} {c : Instr} {e : Exchange} {u v : UnitAddr} {f : UnitFrame} {addr : Byte} {mark : Bool} {body : ReqBody}
  {g : CtlFrame}

/-! ### A repeat (R77 to R79, R83) -/

/-- A marked REQ that the unit's entry holds (R83). -/
theorem repeatAnswer_of_entry (h : (∃ bs, body = .inData bs ∧ 1 ≤ bs.length ∧ bs.length ≤ 16 ∧
      s.answer u = some { kind := .inData, frame := g }) ∨
    ∃ st, body = .status st ∧ s.answer u = some { kind := .status, frame := g }) :
    s.repeatAnswer u true body = some g ∧ bodyWellFormed body = true := by
  rcases h with ⟨bs, rfl, h1, h2, ha⟩ | ⟨st, rfl, ha⟩
  · exact ⟨by simp [State.repeatAnswer, ha], bodyWellFormed_inData h1 h2⟩
  · exact ⟨by simp [State.repeatAnswer, ha], rfl⟩

theorem longFrame_repeat {n : Nat} {b : Bool} (h : s.repeatAnswer u true body = some g) :
    longFrame u n b (.req u true body) s = sendIn (reqExchange u body (n + 1) b none g) s := by
  simp only [longFrame, if_true, longReq, h]

theorem awaitedFrame_poll (h : s.awaitsReply e) (hk : e.kind = .poll) :
    awaitedFrame f (s.modLnk Lnk.heard) = pollReply f (s.modLnk Lnk.heard) := by
  obtain ⟨hl, he, -, -, -⟩ := h
  simp [awaitedFrame, hl, he, hk]

theorem pollReply_repeat (h : s.repeatAnswer u true body = some g) :
    pollReply (.req u true body) s = sendIn (reqExchange u body 1 false (some .poll) g) s := by
  simp only [pollReply, polledReq, h]

theorem recallReply_repeat {st : Byte} (h : s.repeatAnswer u true (.status st) = some g) :
    recallReply e u (.req u true (.status st)) s =
      sendIn (reqExchange u (.status st) e.tries e.corrupt e.opener g) s := by
  simp only [recallReply, if_true, h]

/-- An exchange that opens on what LNK has heard. -/
theorem sendIn_heard (e : Exchange) (h : e.sending = true) : sendIn e (s.modLnk Lnk.heard) =
    { s with lnk := { s.lnk.heard with link := .exchange, exchange := some e } } := by
  have he : ({ e with sending := true } : Exchange) = e := by rw [← h]
  rw [sendIn, he]
  rfl

/-- LNK polls in an exchange that no LONG connection waits in. -/
theorem not_polls_of_long (h : s.long u) : ¬ s.polls := by
  rintro ⟨e, -, ⟨hl, he, -⟩, hk⟩
  rcases h with ⟨hl', -⟩ | ⟨-, -, e', -, ⟨-, he', -⟩, hk', -⟩
  · rw [hl] at hl'
    cases hl'
  · obtain rfl := Option.some.inj (he.symm.trans he')
    rw [hk] at hk'
    cases hk'

theorem not_polls_of_recall (h : s.awaitsReply e) (hk : e.kind = .recall) : ¬ s.polls := by
  rintro ⟨e', -, ⟨-, he', -⟩, hk'⟩
  obtain ⟨-, he, -⟩ := h
  obtain rfl := Option.some.inj (he.symm.trans he')
  rw [hk] at hk'
  cases hk'

theorem awaits_of_polls (h : s.polls) : s.awaits = true := by
  obtain ⟨e, -, ⟨-, -, -, -, ha⟩, -⟩ := h
  exact ha

/-- A repeat is answered with the recorded frame in a LONG connection, after a POLL, and by the unit of a recall. -/
theorem exec_repeat (hn : names addr u)
    (h : s.long u ∨ s.polls ∨ ∃ e st, s.awaitsReply e ∧ e.kind = .recall ∧ e.unit = some u ∧ body = .status st)
    (hr : s.repeatAnswer u true body = some g) (hb : bodyWellFormed body = true) :
    ∃ n b o, (s.polls → o = some .poll) ∧
      exec (.reqRepeat addr body) s = .next (sendIn (reqExchange u body n b o g) (s.modLnk Lnk.heard)) := by
  have hl : linkFrame (.reqRepeat addr body) = some (.req u true body) := congrArg some (reqFrame_eq hn hb)
  have hr' : (s.modLnk Lnk.heard).repeatAnswer u true body = some g := hr
  rcases h with h | h | ⟨e, st, h, hk, hu, rfl⟩
  · obtain ⟨n, b, hrun⟩ := exec_long hl h
    exact ⟨_, _, none, fun hp => absurd hp (not_polls_of_long h), hrun.trans (by rw [longFrame_repeat hr'])⟩
  · obtain ⟨e, -, he, hk⟩ := id h
    refine ⟨1, false, some .poll, fun _ => rfl, ?_⟩
    rw [exec_awaited hl (awaits_of_polls h), awaitedFrame_poll he hk, pollReply_repeat hr']
  · obtain ⟨-, -, -, -, ha⟩ := id h
    refine ⟨e.tries, e.corrupt, e.opener, fun hp => absurd hp (not_polls_of_recall h hk), ?_⟩
    rw [exec_awaited hl ha, awaitedFrame_recall h hk hu, recallReply_repeat hr']

/-! ### A mark the answer memory does not hold (R83) -/

theorem repeatAnswer_of_no_entry (hi : ∀ bs, body = .inData bs → ∀ f, s.answer u ≠ some { kind := .inData, frame := f })
    (hs : ∀ st, body = .status st → ∀ f, s.answer u ≠ some { kind := .status, frame := f }) :
    s.repeatAnswer u mark body = none := by
  unfold State.repeatAnswer
  cases ha : s.answer u with
  | none => rfl
  | some x =>
    obtain ⟨k, f⟩ := x
    cases mark with
    | false => rfl
    | true =>
      cases body with
      | outData => cases k <;> rfl
      | inData bs =>
        cases k with
        | inData => exact absurd ha (hi bs rfl f)
        | status => rfl
      | status st =>
        cases k with
        | inData => rfl
        | status => exact absurd ha (hs st rfl f)

theorem wrongFrame_mark {entry : Option Answer} :
    wrongFrame e u (.req v mark body) entry s = wrongFrame e u (.req v false body) entry s := by
  unfold wrongFrame
  cases s.lnk.conn <;> rfl

theorem longFrame_mark {n : Nat} {b : Bool} (h : s.repeatAnswer v mark body = none) :
    longFrame u n b (.req v mark body) s = longFrame u n b (.req v false body) s := by
  simp only [longFrame, wrongFrame_mark (mark := mark)]
  by_cases hv : v = u
  · subst hv
    simp only [if_true, longReq, h, repeatAnswer_unmarked]
  · simp only [if_neg hv]

theorem recallReply_mark (h : s.repeatAnswer v mark body = none) :
    recallReply e u (.req v mark body) s = recallReply e u (.req v false body) s := by
  cases body with
  | inData bs => rfl
  | outData => rfl
  | status st =>
    by_cases hv : v = u
    · subst hv
      simp only [recallReply, if_true, h, repeatAnswer_unmarked]
    · simp only [recallReply, if_neg hv]
      rfl

theorem pollReply_mark (h : s.repeatAnswer v mark body = none) :
    pollReply (.req v mark body) s = pollReply (.req v false body) s := by
  simp only [pollReply, polledReq, h, repeatAnswer_unmarked]

/-- A mark on a REQ that is no repeat makes no difference, whatever it meets. -/
theorem awaitedFrame_mark (h : s.repeatAnswer v mark body = none) :
    awaitedFrame (.req v mark body) s = awaitedFrame (.req v false body) s := by
  unfold awaitedFrame
  split
  · exact longFrame_mark h
  · split
    · rfl
    · rfl
    · exact pollReply_mark h
    · exact recallReply_mark h
    · exact wrongFrame_mark
    · exact longFrame_mark h
    · rfl
  · rfl

theorem receiveFrame_mark (h : s.repeatAnswer v mark body = none) :
    receiveFrame (.req v mark body) s = receiveFrame (.req v false body) s := by
  have h' : (s.modLnk (fun l =>
      { l with reception := .none, replyTimer := .stopped, gapTimer := .stopped })).repeatAnswer v mark body = none := h
  rw [receiveFrame, receiveFrame, awaitedFrame_mark h']

theorem names_of_unitOf (h : unitOf addr = some u) : names addr u := by
  unfold unitOf at h
  split at h
  · cases h
    rfl
  · cases h

theorem receiveReqFrame_mark (h : ∀ u, names addr u → s.repeatAnswer u mark body = none) :
    receiveFrame (reqFrame addr mark body) s = receiveFrame (reqFrame addr false body) s := by
  unfold reqFrame
  cases hu : unitOf addr with
  | none => rfl
  | some u =>
    cases bodyWellFormed body with
    | false => rfl
    | true => exact receiveFrame_mark (h u (names_of_unitOf hu))

/-- A row of a REQ does what the same row without the mark does, when no entry holds it. -/
theorem exec_mark {c' : Instr} (h : ∀ u, names addr u → s.repeatAnswer u true body = none)
    (hc : linkFrame c = some (reqFrame addr true body)) (hc' : linkFrame c' = some (reqFrame addr false body)) :
    exec c s = exec c' s := by
  rw [exec_linkFrame s hc, exec_linkFrame s hc', receiveReqFrame_mark h]

/-- Settles O46: a repeat is answered from the entry; without one the mark is read past. -/
theorem aRepeatIsAnsweredFromTheAnswerMemory : Obligations.ARepeatIsAnsweredFromTheAnswerMemory := by
  refine ⟨fun s u addr body f hn h hx => ?_, fun s addr => ⟨fun data hx => ?_, fun st hx => ?_, ?_, ?_⟩⟩
  · obtain ⟨hr, hb⟩ := repeatAnswer_of_entry hx
    obtain ⟨n, b, o, ho, hrun⟩ := exec_repeat hn h hr hb
    exact ⟨_, rfl, rfl, rfl, rfl, ho, hrun.trans (congrArg _ (sendIn_heard _ rfl))⟩
  · have hnone : ∀ u, names addr u → s.repeatAnswer u true (.inData data) = none := fun u hu =>
      repeatAnswer_of_no_entry (fun _ _ f => hx u f hu) (fun _ h => by cases h)
    exact ⟨exec_mark hnone rfl rfl, exec_mark hnone rfl rfl⟩
  · have hnone : ∀ u, names addr u → s.repeatAnswer u true (.status st) = none := fun u hu =>
      repeatAnswer_of_no_entry (fun _ h => by cases h) (fun _ _ f => hx u f hu)
    exact ⟨exec_mark hnone rfl rfl, exec_mark hnone rfl rfl⟩
  · exact exec_mark (fun u _ => repeatAnswer_outData s u true) rfl rfl
  · exact exec_mark (fun u _ => repeatAnswer_outData s u true) rfl rfl

/-! ### Corrupt frames (R73, R74, R77) -/

theorem longFrame_corrupt {n : Nat} {b : Bool} (h : n + 1 < 3) : longFrame u n b .corrupt s =
    (sendIn { requestExchange u (.nak u) (n + 1) b with corrupt := true } s).setAnswer u none := if_pos h

/-- NAK goes out, and the unit's entry is emptied (R74, R83). -/
theorem nakSent (n : Nat) (b : Bool) :
    (sendIn { requestExchange u (.nak u) n b with corrupt := true } (s.modLnk Lnk.heard)).setAnswer u none =
      (forgets u s).modLnk (fun l => { l.heard with
        link := .exchange,
        exchange := some { kind := .request, unit := some u, frame := .nak u, tries := n, corrupt := true, opener := none,
                           sending := true, more := [] } }) := rfl

/-- Settles O47: NAK in HOLD and after NAK, nothing after a POLL, one more try of SEL, RCL and DAT. -/
theorem aCorruptFrameIsAnsweredNak : Obligations.ACorruptFrameIsAnsweredNak := by
  refine ⟨fun s u ⟨hl, hc, ha, hs⟩ => ?_, fun s e u h hk hu ht => ?_, fun s e h hk => ?_, fun s e u h hu ht hk => ?_⟩
  · rw [exec_awaited (c := .corruptFrame) rfl ha, awaitedFrame_hold hl hc, longFrame_corrupt (by omega), nakSent]
  · have hl' : (forgets u s).lnk.link = .exchange := h.1
    rw [exec_corruptFrame h, awaitedFrame_request h hk hu, longFrame_corrupt (by omega), nakSent]
    simp only [State.modLnk, Lnk.heard, ← hl']
  · rw [exec_corruptFrame h, awaitedFrame_poll h hk]
    rfl
  · rw [exec_corruptFrame h, awaitedFrame_corrupt h hu (by tauto), retryOrEnd_again (e := e.noting true) hu ht (by
      rcases hk with hk | hk | hk | hk <;> simp [Exchange.noting, hk]), tryAgain_heard _ h]
    rw [Exchange.noting, Bool.or_true]
    rfl

end

end Sys2Proof.RepeatsAndNaks
end

section
/-! PROOFS. Units that are polled without an order on the link: unsolicited status, and stray requests. -/

namespace Sys2Proof.PolledUnits

open Sys2Proof.Machine Sys2Proof.Laws Sys2Proof.StepActs Sys2Proof.UnitContexts Sys2Proof.DirectoryCommands
  Sys2Proof.PortFrames Sys2Proof.TimersAndGrants Sys2Proof.LinkTimers Sys2Proof.SegmentSteps Sys2Proof.OrderRequests
  Sys2Proof.SegmentSwitch Sys2Proof.OutputRequests Sys2Proof.OrderEndings Sys2Proof.FailedExchanges Sys2Proof.RepeatsAndNaks

section
variable {s t : State} {c : Instr} {e : Exchange} {u v : UnitAddr} {p : Port} {a : Word} {f : UnitFrame} {addr st : Byte}
  {n : Nat} {b : Bool} {o : Option GrantKind} {body : ReqBody}

/-! ### The target port of a unit's status (R124) -/

theorem target_of_order (h : (s.ctx u).state ≠ .idle) : s.target u = (s.ctx u).owner := if_neg h

theorem target_of_idle {x : DirEntry} (h : (s.ctx u).state = .idle) (hx : s.entry u = some x) :
    s.target u = if (s.port x.home).state = .lapsed then some x.home.peer else some x.home := by
  simp only [State.target, h, if_true, hx]

/-! ### Status given to RCM (R125, R128) -/

theorem placeAttention_eq (x : UStatus) (ht : s.target u = some p) :
    placeAttention u x s = enqueue p (.attention u x) s := by
  simp only [placeAttention, ht]

theorem targetFull_of_room (ht : s.target u = some p) : s.targetFull u = false ↔ roomIn s p := by
  simp only [State.targetFull, ht, queueFull_eq_false]

theorem targetFull_of_no_room (ht : s.target u = some p) (hr : ¬ roomIn s p) : s.targetFull u = true := by
  rw [← Bool.not_eq_false, targetFull_of_room ht]
  exact hr

theorem takeUnsolicited_deferred (x : UStatus) (hu : u ∈ s.rcm.deferred) : takeUnsolicited u x s = (s, false) :=
  if_pos hu

theorem takeUnsolicited_no_room (x : UStatus) (ht : s.target u = some p) (hu : u ∉ s.rcm.deferred) (hr : ¬ roomIn s p) :
    takeUnsolicited u x s = (s.setDeferred (s.rcm.deferred ++ [u]), false) := by
  rw [takeUnsolicited, if_neg hu, targetFull_of_no_room ht hr, if_pos rfl]

theorem takeUnsolicited_room (x : UStatus) (ht : s.target u = some p) (hu : u ∉ s.rcm.deferred) (hr : roomIn s p) :
    takeUnsolicited u x s = (enqueue p (.attention u x) s, true) := by
  rw [takeUnsolicited, if_neg hu, (targetFull_of_room ht).mpr hr, placeAttention_eq x ht]
  rfl

theorem takeDeferred_no_room (x : UStatus) (ht : s.target u = some p) (hr : ¬ roomIn s p) :
    takeDeferred u x s = (s.setDeferred (without u s.rcm.deferred ++ [u]), false) := by
  rw [takeDeferred, targetFull_of_no_room ht hr, if_pos rfl]

theorem takeDeferred_room (x : UStatus) (ht : s.target u = some p) (hr : roomIn s p) : takeDeferred u x s =
    ((enqueue p (.attention u x) s).setDeferred (without u s.rcm.deferred), true) := by
  rw [takeDeferred, (targetFull_of_room ht).mpr hr, placeAttention_eq x ht]
  rfl

/-- RCM's answer to a status is TAK or DFR, kept in the answer memory (R82, R83). -/
theorem answerStatus_eq (g : GrantKind) (r : State × Bool) : answerStatus u st n b g r =
    answerSent u (.status st) n b (some g) (if r.2 then .tak u else .dfr u) r.1 := rfl

/-! ### A REQ after a POLL (R77) -/

theorem exec_polled (hl : linkFrame c = some (.req u false body)) (h : s.polls) :
    exec c s = .next (polledReq u false body (s.modLnk Lnk.heard)) := by
  obtain ⟨e, -, he, hk⟩ := id h
  rw [exec_awaited hl (awaits_of_polls h), awaitedFrame_poll he hk]
  rfl

/-- The status of a unit that is not being served goes to RCM. -/
theorem polledReq_status {x : DirEntry} (hx : s.entry u = some x) (hs : (s.ctx u).state ≠ .disconnected) :
    polledReq u false (.status st) s = answerStatus u st 1 false .poll (takeUnsolicited u (statusOf st) s) := by
  simp only [polledReq, repeatAnswer_unmarked, hx, if_neg hs]

theorem linkFrame_status (hn : names addr u) : linkFrame (.reqStatus addr false st) = some (.req u false (.status st)) :=
  congrArg some (reqFrame_eq hn rfl)

/-- Settles O48: the target is the owner's or the home port's queue; it takes the status, or the status is deferred. -/
theorem unsolicitedStatusGoesToItsTargetOrIsDeferred : Obligations.UnsolicitedStatusGoesToItsTargetOrIsDeferred := by
  refine ⟨fun s u => ⟨target_of_order, fun x hi hx ha => ?_, fun x hi hx ha => ?_⟩, fun s e u p addr st h hk hn he ht hs => ?_⟩
  · rw [target_of_idle hi hx, if_neg (by rw [ha]; nofun)]
  · rw [target_of_idle hi hx, if_pos ha]
  · obtain ⟨x, hx⟩ := Option.ne_none_iff_exists'.mp he
    have hnd : ((s.modLnk Lnk.heard).ctx u).state ≠ .disconnected := by
      rw [modLnk_ctx]
      rcases hs with hs | hs | hs <;> rw [hs] <;> nofun
    obtain ⟨-, hex, -⟩ := id h
    have hrun := exec_polled (linkFrame_status (st := st) hn) ⟨e, hex, h, hk⟩
    rw [polledReq_status (s := s.modLnk Lnk.heard) hx hnd, answerStatus_eq] at hrun
    have ht' : (s.modLnk Lnk.heard).target u = some p := ht
    refine ⟨fun hu hr => ?_, fun hu hr => ?_, fun hu => ?_⟩
    · rw [takeUnsolicited_room (s := s.modLnk Lnk.heard) _ ht' hu hr, statusOf_eq] at hrun
      refine ⟨_, hrun, answerSent_answering (enqueue_lnk ..) rfl rfl, (enqueue_queue ..).trans (if_pos rfl),
        (enqueue_seqNo ..).trans (if_pos rfl), enqueue_deferred .., rfl, ?_, rfl, rfl, rfl, rfl⟩
      exact (enqueue_queue ..).trans (if_neg (by cases p <;> decide))
    · rw [takeUnsolicited_no_room (s := s.modLnk Lnk.heard) _ ht' hu hr] at hrun
      exact ⟨_, hrun, answerSent_answering rfl rfl rfl, rfl, rfl, rfl, rfl, rfl⟩
    · rw [takeUnsolicited_deferred (s := s.modLnk Lnk.heard) _ hu] at hrun
      exact ⟨_, hrun, answerSent_answering rfl rfl rfl, rfl, rfl, rfl, rfl, rfl⟩

/-! ### Stray requests (R77, R85) -/

/-- The notice of a stray request, offered to both queues; nothing else differs. -/
theorem offerStray_spec (v : UnitAddr) (s : State) : sameButPortsAndQueues s (offerStray v s) ∧
    (offerStray v s).dsc = s.dsc ∧ ∀ p, noticeOffered p .strayUnit (some v.val) s (offerStray v s) ∧
      (offerStray v s).port p = { s.port p with noticeLost := ((offerStray v s).port p).noticeLost } :=
  ⟨offerBoth_same (s := s) _ _, offerBoth_dsc .., fun p => offerBoth_spec s _ _ p⟩

/-- STP in the abandon form goes to the address of a REQ that no order of the link expects (R77). -/
def strayRefused (u : UnitAddr) (body : ReqBody) (s : State) : State :=
  answerSent u body 1 false (some .poll) (.stp .abandon u) (s.modLnk Lnk.heard)

theorem polledReq_stray (hx : s.entry u = none) :
    polledReq u false body (s.modLnk Lnk.heard) = offerStray u (strayRefused u body s) := by
  have hx' : (s.modLnk Lnk.heard).entry u = none := hx
  simp only [polledReq, repeatAnswer_unmarked, hx']
  rfl

theorem polledReq_no_order (hx : s.entry u ≠ none) (hs : (s.ctx u).state ≠ .disconnected) (hb : ∀ st, body ≠ .status st) :
    polledReq u false body (s.modLnk Lnk.heard) = strayRefused u body s := by
  obtain ⟨x, hx⟩ := Option.ne_none_iff_exists'.mp hx
  have hx' : (s.modLnk Lnk.heard).entry u = some x := hx
  simp only [polledReq, repeatAnswer_unmarked, hx', modLnk_ctx]
  cases body with
  | status st => exact absurd rfl (hb st)
  | inData bs => exact if_neg hs
  | outData => exact if_neg hs

/-- What the link does for a REQ so refused (R83). -/
theorem strayRefused_link (u : UnitAddr) (body : ReqBody) (s : State) :
    sendsTo u (.stp .abandon u) (strayRefused u body s) ∧ viaPoll s (strayRefused u body s) ∧
      (strayRefused u body s).answer u = keptAnswer body (.stp .abandon u) ∧
      ∀ v, v ≠ u → (strayRefused u body s).answer v = s.answer v := by
  refine ⟨⟨rfl, rfl, rfl, _, rfl, rfl, rfl, rfl, rfl⟩, fun _ => ⟨_, rfl, rfl⟩, ?_, fun v hv => ?_⟩
  · rw [strayRefused, answerSent_answer, if_pos rfl, answerTo_stp]
  · rw [strayRefused, answerSent_answer, if_neg hv]
    rfl

/-- A REQ so refused, and its notice: nothing differs but LNK, the ports and the queues. -/
theorem strayNoticed_same (u : UnitAddr) (body : ReqBody) (s : State) :
    sameButPortsAndQueues s { offerStray u (strayRefused u body s) with lnk := s.lnk } ∧
      (offerStray u (strayRefused u body s)).dsc = s.dsc ∧
      ∀ p, noticeOffered p .strayUnit (some u.val) s (offerStray u (strayRefused u body s)) ∧
        (offerStray u (strayRefused u body s)).port p =
          { s.port p with noticeLost := ((offerStray u (strayRefused u body s)).port p).noticeLost } := by
  obtain ⟨⟨h1, -, h3, h4, h5, h6⟩, hdsc, hport⟩ := offerStray_spec u (strayRefused u body s)
  exact ⟨⟨h1, rfl, h3, h4, h5, h6⟩, hdsc, hport⟩

/-- What LNK sends is read from LNK alone. -/
theorem sendsTo_congr {g : CtlFrame} {t' : State} (hl : t'.lnk = t.lnk) (h : sendsTo u g t) : sendsTo u g t' := by
  rw [sendsTo, hl]
  exact h

theorem answer_congr {t' : State} (hl : t'.lnk = t.lnk) (v : UnitAddr) : t'.answer v = t.answer v := by
  rw [State.answer, hl]
  rfl

theorem viaPoll_congr {t' : State} (hl : t'.lnk = t.lnk) (h : viaPoll s t) : viaPoll s t' := by
  rw [viaPoll, hl]
  exact h

theorem answering_congr {t' : State} {k : ExKind} {x : AnsweredKind} {g : CtlFrame} (hl : t'.lnk = t.lnk)
    (h : answering k x u g s t) : answering k x u g s t' := by
  simp only [answering, hl, answer_congr hl]
  exact h

/-! ### A stray REQ in a LONG connection (R79, R81, R85) -/

/-- A REQ from an address without an entry fails the exchange, is sent STP of its own first, and is reported after (logs 8, 22,
30). -/
theorem wrongFrame_stray {mark : Bool} {entry : Option Answer} {w : UnitAddr} (hc : s.lnk.conn = some w) (hv : v ≠ u)
    (hx : s.entry v = none) : wrongFrame e u (.req v mark body) entry s =
      (sendIn { e with frame := .stp .abandon v, more := [.stp .abandon u] }
        (offerStray v (failExchange e u .protocol entry s))).setAnswer v (answerTo body (.stp .abandon v)) := by
  simp only [wrongFrame, hc, hv, hx, ne_eq, not_false_eq_true, and_self, if_true]

theorem not_long_of_dataOut (h : s.awaitsReply e) (hk : e.kind = .dataOut) : ¬ s.long u := by
  obtain ⟨hl, he, -⟩ := h
  rintro (⟨hl', -⟩ | ⟨-, -, e', -, ⟨-, he', -⟩, hk', -⟩)
  · rw [hl] at hl'
    cases hl'
  · obtain rfl := Option.some.inj (he.symm.trans he')
    rw [hk] at hk'
    cases hk'

/-- The stray REQ is a wrong frame of the LONG connection, whose entry it leaves as its place has it (R83, log 9). -/
theorem exec_stray {mark : Bool} (hl : linkFrame c = some (.req v mark body)) (hv : v ≠ u)
    (h : s.long u ∨ ∃ e, s.awaitsReply e ∧ e.kind = .dataOut ∧ e.unit = some u) : ∃ e entry, e.unit = some u ∧
      (s.long u → entry = some { kind := .status, frame := .stp .abandon u }) ∧ (¬ s.long u → entry = none) ∧
      exec c s = .next (wrongFrame e u (.req v mark body) entry (s.modLnk Lnk.heard)) := by
  rcases h with h | ⟨e, he, hk, hu⟩
  · obtain ⟨n, b, hrun⟩ := exec_long hl h
    refine ⟨requestExchange u (.nak u) (n + 1) b, _, rfl, fun _ => rfl, fun hn => absurd h hn, hrun.trans ?_⟩
    rw [longFrame, if_neg hv]
    rfl
  · obtain ⟨-, -, -, -, ha⟩ := id he
    refine ⟨e, none, hu, fun hlong => absurd hlong (not_long_of_dataOut he hk), fun _ => rfl, ?_⟩
    rw [exec_awaited hl ha, awaitedFrame_dataOut he hk hu]
    rfl

/-- Settles O49: after a POLL a stray REQ is refused and reported and a data REQ without an order refused; in a LONG connection the
exchange fails, and the notice follows the order's record. -/
theorem aStrayUnitIsAbandonedAndReported : Obligations.AStrayUnitIsAbandonedAndReported := by
  refine ⟨fun s u addr st h hn hx => ?_, fun c s u body hl h hb => ⟨fun hx => ?_, fun hx hs => ?_⟩,
    fun c s u v p a mark body hl hv hx ho ha hs hc h => ?_⟩
  · have hrun := exec_polled (linkFrame_status (st := st) hn) h
    rw [polledReq_stray hx] at hrun
    obtain ⟨h1, h2, h3⟩ := strayNoticed_same u (.status st) s
    refine ⟨_, hrun, answering_congr (offerStray_lnk ..) ?_, h1, h2, h3⟩
    exact answerSent_answering (m := s.modLnk Lnk.heard) rfl rfl rfl
  · have hrun := exec_polled hl h
    rw [polledReq_stray hx] at hrun
    obtain ⟨l1, l2, l3, l4⟩ := strayRefused_link u body s
    obtain ⟨h1, h2, h3⟩ := strayNoticed_same u body s
    have hlnk := offerStray_lnk (strayRefused u body s) u
    exact ⟨_, hrun, sendsTo_congr hlnk l1, viaPoll_congr hlnk l2, (answer_congr hlnk u).trans l3,
      fun v hv => (answer_congr hlnk v).trans (l4 v hv), h1, h2, h3⟩
  · have hrun := exec_polled hl h
    rw [polledReq_no_order hx (by rcases hs with hs | hs | hs <;> rw [hs] <;> nofun) hb] at hrun
    obtain ⟨l1, l2, l3, l4⟩ := strayRefused_link u body s
    exact ⟨_, hrun, l1, l2, l3, l4, rfl⟩
  · obtain ⟨e, entry, hu, hlong, hnot, hrun⟩ := exec_stray hl hv h
    obtain ⟨⟨-, hconn, hans⟩, hended⟩ := failExchange_spec (e := e) (s := s) (u := u) (p := p) (a := a) Lnk.heard .protocol
      entry hu ⟨ho, ha, by simp [Context.inProgress, hs]⟩
    rw [wrongFrame_stray (s := s.modLnk Lnk.heard) hc hv hx] at hrun
    generalize failExchange e u .protocol entry (s.modLnk Lnk.heard) = m at *
    obtain ⟨⟨h1, -, h3, h4, h5, h6⟩, hdsc, hport⟩ := offerStray_spec v m
    have hlnk := offerStray_lnk m v
    refine ⟨_, m, hrun, hended, ⟨h1, rfl, h3, h4, h5, h6⟩, hdsc, hport, rfl, (congrArg Lnk.conn hlnk).trans hconn, rfl,
      rfl, ⟨_, rfl, hu, rfl, rfl, rfl⟩, ?_, ?_⟩
    · rw [answer_setAnswer, if_pos rfl, answerTo_stp]
    · rw [answer_setAnswer, if_neg hv.symm]
      refine (answer_congr hlnk u).trans (hans.trans ?_)
      by_cases hl : s.long u
      · rw [if_pos hl, hlong hl]
      · rw [if_neg hl, hnot hl]

end

end Sys2Proof.PolledUnits
end

section
/-! PROOFS. Recalls: answered with the deferred status, lost for want of a reply, or lost to a wrong frame. -/

namespace Sys2Proof.Recalls

open Sys2Proof.Machine Sys2Proof.Laws Sys2Proof.StepActs Sys2Proof.UnitContexts Sys2Proof.LinkTimers
  Sys2Proof.SegmentSteps Sys2Proof.OrderRequests Sys2Proof.SegmentSwitch Sys2Proof.OutputRequests Sys2Proof.OrderEndings
  Sys2Proof.FailedExchanges Sys2Proof.PortFrames Sys2Proof.PolledUnits

section
variable {s t : State} {c : Instr} {e : Exchange} {u v : UnitAddr} {p : Port} {a : Word} {f : UnitFrame} {addr st : Byte}

/-! ### The recall answered (R78, R128) -/

theorem exec_recallStatus (h : s.awaitsReply e) (hk : e.kind = .recall) (hu : e.unit = some u) (hn : names addr u) :
    exec (.reqStatus addr false st) s = .next (answerStatus u st e.tries e.corrupt .recall
      (takeDeferred u (statusOf st) (s.modLnk Lnk.heard))) := by
  obtain ⟨-, -, -, -, ha⟩ := id h
  rw [exec_awaited (linkFrame_status hn) ha, awaitedFrame_recall h hk hu]
  simp only [recallReply, if_true, repeatAnswer_unmarked]

/-! ### The recall lost (R78, R108, R126) -/

/-- The deferred list without the unit recalled. -/
def dequeued (u : UnitAddr) (s : State) : State := s.setDeferred (without u s.rcm.deferred)

/-- A recall that is lost: its unit leaves the list, and the notice names it. -/
theorem recallLost_spec (u : UnitAddr) (s : State) : (recallLost u s).rcm.deferred = s.rcm.deferred.filter (fun v => v ≠ u) ∧
    (recallLost u s).rcm.heldLists = s.rcm.heldLists ∧ (recallLost u s).ctb = s.ctb ∧ (recallLost u s).lnk = s.lnk ∧
    (recallLost u s).str = s.str ∧ (recallLost u s).dsc = s.dsc ∧ (recallLost u s).pending = s.pending ∧
    ∀ p, noticeOffered p .strayUnit (some u.val) s (recallLost u s) ∧
      (recallLost u s).port p = { s.port p with noticeLost := ((recallLost u s).port p).noticeLost } := by
  obtain ⟨⟨h1, h2, h3, h4, h5, h6⟩, hdsc, hport⟩ := offerStray_spec u (dequeued u s)
  refine ⟨h5, h4, h1, h2, h3, hdsc, h6, fun p => ?_⟩
  obtain ⟨h7, h8⟩ := hport p
  exact ⟨noticeOffered_congr h7 rfl rfl rfl rfl rfl rfl rfl, h8⟩

theorem fullSilence_congr (hd : t.dsc = s.dsc) : fullSilence t u = fullSilence s u := by
  have he : t.entry u = s.entry u := by
    rw [State.entry, hd]
    rfl
  rw [fullSilence, fullSilence, he]

/-- The timer that a recall stopped starts again on the context, whatever else has come of the recall. -/
theorem silenceRestarted_ctb (hc : t.ctb = s.ctb) (hd : t.dsc = s.dsc) :
    (silenceRestarted u t).ctb = (silenceRestarted u s).ctb := by
  unfold silenceRestarted
  rw [ctx_of_ctb hc, fullSilence_congr hd]
  by_cases h : (s.ctx u).state = .disconnected
  · rw [if_pos h, if_pos h]
    simp only [State.modCtx, ctx_of_ctb hc, hc]
  · rw [if_neg h, if_neg h, hc]

theorem silenceRestarted_parts (u : UnitAddr) (s : State) : (silenceRestarted u s).lnk = s.lnk ∧
    (silenceRestarted u s).rcm = s.rcm ∧ (silenceRestarted u s).ports = s.ports ∧ (silenceRestarted u s).str = s.str ∧
    (silenceRestarted u s).dsc = s.dsc ∧ (silenceRestarted u s).pending = s.pending := by
  unfold silenceRestarted
  by_cases h : (s.ctx u).state = .disconnected
  · rw [if_pos h]
    exact ⟨rfl, rfl, rfl, rfl, rfl, rfl⟩
  · rw [if_neg h]
    exact ⟨rfl, rfl, rfl, rfl, rfl, rfl⟩

theorem retryOrEnd_recall (hk : e.kind = .recall) (hu : e.unit = some u) (ht : e.tries = 3) :
    retryOrEnd e s = silenceRestarted u (toOpened (recallLost u s)) := by
  unfold retryOrEnd
  simp [hk, hu, ht, Config.maxTries, recallFailed, recallOver_eq]

/-! ### A wrong frame in reply to RCL (R78) -/

theorem recallReply_wrong (hf : f ≠ .corrupt) (hs : ∀ m st, f ≠ .req u m (.status st)) :
    recallReply e u f s = sendAbandon e u (failureEntry u f) (recallFailed u true s) := by
  rw [← abandonAnswer_reqFrom]
  cases f with
  | corrupt => exact absurd rfl hf
  | rsp v st => rfl
  | ack v => rfl
  | nak v => rfl
  | req v m body =>
    cases body with
    | inData bs => rfl
    | outData => rfl
    | status st => exact if_neg fun h => hs m st (by rw [h])

theorem sendAbandon_abandons (entry : Option Answer) (hu : e.unit = some u) (m : State) :
    abandons u entry (sendAbandon e u entry m) := by
  refine ⟨⟨rfl, rfl, rfl, _, rfl, hu, rfl, rfl, rfl⟩, rfl, ?_⟩
  change ((sendIn _ m).setAnswer u entry).answer u = entry
  rw [answer_setAnswer, if_pos rfl]

/-- STP in the abandon form does not touch the record of the order it follows. -/
theorem ended_sendAbandon {r : Completion} {entry : Option Answer} {m : State} (h : ended u p r s m) :
    ended u p r s (sendAbandon e u entry m) := ended_of_eq s h rfl

theorem sendAbandon_same (entry : Option Answer) (m : State) : { sendAbandon e u entry m with lnk := m.lnk } = m := rfl

theorem recallFailed_wrong (u : UnitAddr) (s : State) : recallFailed u true s =
    if (s.ctx u).state = .disconnected then failOrder u .protocol (recallLost u s) else recallLost u s := by
  simp only [recallFailed, Bool.true_and, recallLost_ctx, decide_eq_true_eq]

theorem noticeOffered_of_parts {x : Option Nat} {t' : State} (h : noticeOffered p .strayUnit x s t) (hr : t'.rcm = t.rcm)
    (hp : t'.ports = t.ports) : noticeOffered p .strayUnit x s t' := by
  refine noticeOffered_congr h rfl rfl rfl rfl ?_ ?_ ?_
  · rw [State.queue, hr]
    rfl
  · rw [State.seqNo, hr]
    rfl
  · rw [State.port, hp]
    rfl

/-- Settles O50: the recall's status is taken or deferred again; its last try or a wrong frame loses it. -/
theorem aRecallIsAnsweredOrLost : Obligations.ARecallIsAnsweredOrLost := by
  refine ⟨fun s e u p addr st h hk hu hn ht => ⟨fun hr => ?_, fun hr => ?_⟩, fun c s e u h hk hu ht => ?_,
    fun c f s e u hl hf h hk hu hs => ?_⟩
  · have hrun := exec_recallStatus (st := st) h hk hu hn
    rw [takeDeferred_room (s := s.modLnk Lnk.heard) _ ht hr, answerStatus_eq, statusOf_eq] at hrun
    have hpeer : p.peer ≠ p := by cases p <;> decide
    exact ⟨_, hrun, answerSent_answering rfl rfl rfl, (enqueue_queue ..).trans (if_pos rfl),
      (enqueue_seqNo ..).trans (if_pos rfl), rfl, rfl, (enqueue_queue ..).trans (if_neg hpeer),
      (enqueue_seqNo ..).trans (if_neg hpeer), rfl, rfl, rfl, rfl, rfl⟩
  · have hrun := exec_recallStatus (st := st) h hk hu hn
    rw [takeDeferred_no_room (s := s.modLnk Lnk.heard) _ ht hr, answerStatus_eq] at hrun
    exact ⟨_, hrun, answerSent_answering rfl rfl rfl, rfl, rfl, rfl, rfl, rfl, rfl⟩
  · have hrun := exec_failsTry h hu (.inr (.inr (.inl hk)))
    rw [retryOrEnd_recall (e := e.noting (decide (c = .corruptFrame))) hk hu ht] at hrun
    obtain ⟨h1, h2, h3, h4, h5, h6, h7, h8⟩ := recallLost_spec u (s.modLnk (afterTry c))
    obtain ⟨r1, r2, r3, r4, r5, r6⟩ := silenceRestarted_parts u (toOpened (recallLost u (s.modLnk (afterTry c))))
    refine ⟨_, hrun, r1.trans ?_, (congrArg _ r2).trans h1, (congrArg _ r2).trans h2, silenceRestarted_ctb h3 h6,
      r4.trans h5, r5.trans h6, r6.trans h7, fun p => ?_⟩
    · change { (recallLost u (s.modLnk (afterTry c))).lnk with
        link := .opened, exchange := none, conn := none, replyTimer := .stopped, gapTimer := .stopped } = _
      rw [h4]
      by_cases hc : c = .replyTimerExpiry
      · simp [afterTry, hc, unanswered]
      · simp [afterTry, hc]
    · obtain ⟨hnote, hport⟩ := h8 p
      have hports := r3.trans (toOpened_ports _)
      refine ⟨noticeOffered_of_parts hnote r2 hports, ?_⟩
      have hsame : ∀ x, (silenceRestarted u (toOpened (recallLost u (s.modLnk (afterTry c))))).port x =
          (recallLost u (s.modLnk (afterTry c))).port x := fun x => by rw [State.port, hports]; rfl
      rw [hsame]
      exact hport
  · obtain ⟨-, -, -, -, ha⟩ := id h
    have hrun := exec_awaited hl ha
    rw [awaitedFrame_recall h hk hu, recallReply_wrong hf hs] at hrun
    obtain ⟨h1, h2, h3, h4, h5, h6, h7, h8⟩ := recallLost_spec u (s.modLnk Lnk.heard)
    refine ⟨_, recallLost u (s.modLnk Lnk.heard), hrun, sendAbandon_abandons _ hu _, h1, h2, h3, h5, h6, h7, h8,
      fun hnd => ?_, fun p a hd ho hda => ?_⟩
    · have hlost : recallFailed u true (s.modLnk Lnk.heard) = recallLost u (s.modLnk Lnk.heard) := by
        rw [recallFailed_wrong, if_neg (by simpa using hnd)]
      rw [hlost]
      exact sendAbandon_same _ _
    · have hlost : recallFailed u true (s.modLnk Lnk.heard) =
          failOrder u .protocol (recallLost u (s.modLnk Lnk.heard)) := by
        rw [recallFailed_wrong, if_pos (by simpa using hd)]
      have hctx : (recallLost u (s.modLnk Lnk.heard)).ctx u = s.ctx u := by rw [recallLost_ctx, modLnk_ctx]
      have hended := failOrder_ended (recallLost u (s.modLnk Lnk.heard)) u p a .protocol (by rw [hctx]; exact ho)
        (by rw [hctx, Context.inProgress, hd]; rfl) (by rw [hctx]; exact hda)
      rw [hctx] at hended
      rw [hlost]
      exact ended_sendAbandon hended

end

end Sys2Proof.Recalls
end

section
/-! PROOFS. A unit's frames on the wire: what `classifyFrame` takes as a good frame is that frame's wire bytes. -/

namespace Sys2Proof.WireFrames

open Sys2Proof.Machine Sys2Proof.Laws Sys2Proof.Loading

section
variable {ty addr len : Byte} {payload rest bytes : List Byte} {f : UnitFrame} {u : UnitAddr}

/-- The CRC-16 of a frame as the two bytes that close it. -/
def crcBytes (body : List Byte) : List Byte := [hiByte (crc16 body), loByte (crc16 body)]

theorem wireFrame_eq : wireFrame ty addr payload =
    0x55 :: 0x55 :: 0xD5 :: ty :: addr :: BitVec.ofNat 8 payload.length ::
      (payload ++ crcBytes (ty :: addr :: BitVec.ofNat 8 payload.length :: payload)) := by
  simp [wireFrame, crcBytes]

/-- After preamble and delimiter: the length field, the payload it counts and the CRC-16 over both decide. -/
theorem classifyFrame_delimited : classifyFrame (0x55 :: 0x55 :: 0xD5 :: ty :: addr :: len :: rest) =
    if len.toNat ≤ 16 ∧ rest.length = len.toNat + 2 then
      if rest.drop len.toNat = crcBytes (ty :: addr :: len :: rest.take len.toNat)
      then unitFrameOf ty addr (rest.take len.toNat) else .corrupt
    else .corrupt := rfl

theorem toNat_ofNat_length (h : payload.length ≤ 16) : (BitVec.ofNat 8 payload.length).toNat = payload.length := by
  rw [BitVec.toNat_ofNat]
  omega

theorem classifyFrame_wireFrame (h : payload.length ≤ 16) :
    classifyFrame (wireFrame ty addr payload) = unitFrameOf ty addr payload := by
  rw [wireFrame_eq, classifyFrame_delimited, toNat_ofNat_length h]
  simp [h, crcBytes]

/-- Bytes that are not corrupt are the wire bytes of a type, an address and a payload that spell the frame. -/
theorem wireFrame_of_classifyFrame (h : classifyFrame bytes = f) (hf : f ≠ .corrupt) :
    ∃ ty addr payload, bytes = wireFrame ty addr payload ∧ unitFrameOf ty addr payload = f := by
  unfold classifyFrame at h
  split at h
  case h_2 => exact absurd h.symm hf
  case h_1 ty addr len rest =>
    split_ifs at h with hlen
    case neg => exact absurd h.symm hf
    obtain ⟨hmax, hrest⟩ := hlen
    dsimp only at h
    split_ifs at h with hcrc
    case neg => exact absurd h.symm hf
    have hpayload : BitVec.ofNat 8 (rest.take len.toNat).length = len := by
      rw [List.length_take, hrest, Nat.min_eq_left (Nat.le_add_right ..), BitVec.ofNat_toNat, BitVec.setWidth_eq]
    refine ⟨ty, addr, rest.take len.toNat, ?_, h⟩
    rw [wireFrame_eq, hpayload, crcBytes, ← hcrc, List.take_append_drop]
    rfl

theorem unitOf_unitByte : unitOf (unitByte u) = some u := unitOf_eq_some.mpr rfl

theorem statusOf_statusByte (st : UStatus) : statusOf (statusByte st) = st := by
  unfold statusOf statusByte
  exact BitVec.setWidth_setWidth_of_le st (by decide)

/-- A good frame's bytes on the wire are classified as that frame (11.6). -/
theorem classifyFrame_wire (hf : goodUnitFrame f) : classifyFrame f.wire = f := by
  cases f with
  | corrupt => exact absurd hf id
  | rsp u st => simp [UnitFrame.wire, classifyFrame_wireFrame, unitFrameOf, unitOf_unitByte, statusOf_statusByte]
  | ack u => simp [UnitFrame.wire, classifyFrame_wireFrame, unitFrameOf, unitOf_unitByte]
  | nak u => simp [UnitFrame.wire, classifyFrame_wireFrame, unitFrameOf, unitOf_unitByte]
  | req u mark body =>
    cases body with
    | inData data =>
      obtain ⟨hmin, hmax⟩ := hf
      cases mark <;>
        simp [UnitFrame.wire, classifyFrame_wireFrame hmax, unitFrameOf, unitOf_unitByte, hmin, Config.frameBytes, hmax]
    | outData => cases mark <;> simp [UnitFrame.wire, classifyFrame_wireFrame, unitFrameOf, unitOf_unitByte]
    | status st => cases mark <;> simp [UnitFrame.wire, classifyFrame_wireFrame, unitFrameOf, unitOf_unitByte]

/-- Every frame but RSP determines its type, address and payload. -/
theorem wireFrame_of_unitFrameOf (h : unitFrameOf ty addr payload = f) (hf : f ≠ .corrupt)
    (hrsp : ∀ u st, f ≠ .rsp u st) : wireFrame ty addr payload = f.wire := by
  have hty {n : Nat} (hn : ty.toNat = n) : ty = BitVec.ofNat 8 n := by rw [← hn, BitVec.ofNat_toNat, BitVec.setWidth_eq]
  unfold unitFrameOf at h
  split at h
  case h_1 => exact absurd h.symm hf
  case h_2 u hu =>
    obtain rfl := unitOf_eq_some.mp hu
    split at h
    case h_7 => exact absurd h.symm (hrsp _ _)
    case h_10 => exact absurd h.symm hf
    case h_1 hn | h_2 hn =>
      split_ifs at h
      · rw [← h, hty hn]; rfl
      · exact absurd h.symm hf
    all_goals next hn => rw [← h, hty hn]; rfl

/-- Settles O52: what is classified is a type, an address and a payload under the wire layout; a good frame spells
itself, and every kind but RSP can be spelled in one way only. -/
theorem unitFramesAreReadAsTheirWireBytes : Obligations.UnitFramesAreReadAsTheirWireBytes := by
  refine ⟨fun f => classifyFrame_wire, fun bytes f h hf hrsp => ?_⟩
  obtain ⟨ty, addr, payload, rfl, hspell⟩ := wireFrame_of_classifyFrame h hf
  exact wireFrame_of_unitFrameOf hspell hf hrsp

end

end Sys2Proof.WireFrames
end
